-- ==== Sys2Proof/Word.lean ====
section
/-! DEFINITION. The word types of the Romzar T24: what the manual treats as bits or as a wrapping number. -/

namespace Sys2Proof

/-- One byte of a frame, a cell payload or a response record. -/
abbrev Byte := BitVec 8

/-- A sequence number: 16 bits, modulo 65,536 (00_scope, "Numbers shared by all chapters"). -/
abbrev Seq := BitVec 16

/-- A plan epoch: 0 to 15, modulo 16 (00_scope, "Numbers shared by all chapters"). -/
abbrev Epoch := BitVec 4

/-- A superframe number: 0 to 65,535 (00_scope, "Numbers shared by all chapters"). -/
abbrev SfNum := BitVec 16

/-- A rank, 0 (strongest) to 3 (R174), and the edit rank of a descriptor (section 1.1). -/
abbrev Rank := Fin 4

/-- A stream index, 0 to 31; index 0 is the system stream. -/
abbrev StreamIx := Fin 32

/-- A set of event kinds; bit i is the kind in row i of the table of section 10.1. -/
abbrev KindSet := BitVec 24

end Sys2Proof
end

