-- ==== Sys2Proof/Syntax.lean ====
section
/-! DEFINITION. The names of the manual as types, the arguments of its commands, and Instr: one constructor for each
row of spec/opcode_table.json. -/

namespace Sys2Proof

/-! ### Names -/

/-- The three paths between the terminals (00_scope, "The link and its two ends"). -/
inductive Path where
  | a | b | w
deriving DecidableEq, Repr

/-- Which end a terminal is; taken from the ROLE line (R77). -/
inductive Role where
  | mast | truck
deriving DecidableEq, Repr

/-- The two local management ports. -/
inductive Port where
  | lp1 | lp2
deriving DecidableEq, Repr

/-- The three requesters (chapter 9). -/
inductive Requester where
  | lp1 | lp2 | pt
deriving DecidableEq, Repr

/-- Storm levels (chapter 6), in rising order. -/
inductive Level where
  | calm | watch | storm | strike
deriving DecidableEq, Repr

/-- Block lengths in cells (R56). -/
inductive BlockLen where
  | l1 | l2 | l4 | l8 | l16
deriving DecidableEq, Repr

/-- The quality of a cell handed on by the framer: the outcome of its block (R52). -/
inductive Quality where
  | clean | corrected
deriving DecidableEq, Repr

/-! ### What arrives on a path -/

/-- The fields of a superframe header, fourteen bytes of the sixteen (section 3.7). -/
structure Header where
  number : SfNum
  sendTime : BitVec 26
  role : Role
  parked : Bool
  mutingNext : Bool
  level : Level
  lengthCode : BitVec 3
  echoValid : Bool
  epoch : Epoch
  echoOf : BitVec 26
  turnaround : BitVec 16
deriving DecidableEq, Repr

/-- A header as the receiving half meets it: its fields, whether its check passes, and the two time stamps of its first
byte: link time (R48) and the reference clock (R46). -/
structure HeaderArrival where
  header : Header
  checkPasses : Bool
  arrivalLink : Nat
  arrivalRef : Nat
deriving DecidableEq, Repr

/-- A cell: the fields of its 16-byte header and its 240-byte payload (section 3.7). -/
structure Cell where
  fill : Bool
  copyIndex : BitVec 2
  stream : StreamIx
  seq : Seq
  origin : Nat
  payload : List Byte
deriving DecidableEq, Repr

/-- A cell of a received block with the link time at which its last byte arrived (R52). -/
structure CellArrival where
  cell : Cell
  arrival : Nat
deriving DecidableEq, Repr

/-- A block at the moment it can be judged (R51): how many of its bytes were corrupted on the way, whether its check
bytes and its signal arrived, the length it was sent with, and its cells as they were sent. -/
structure BlockArrival where
  corrupted : Nat
  complete : Bool
  sentLength : BlockLen
  cells : List CellArrival
deriving DecidableEq, Repr

/-- What a path's receiving half can meet: a header, the want of one, or a block. The rows of the table that name a
threshold crossed (ALIGNMENT_LOSS and its like) carry the arrival that crosses it. -/
inductive RxEvent where
  | header (h : HeaderArrival)
  | missing
  | block (b : BlockArrival)
deriving DecidableEq, Repr

/-! ### Commands

The arguments of a command are the bytes of its frame (section 9.6): an argument of one byte is a `Byte`, a setting of
two bytes a `BitVec 16`. A setting whose presence bit is clear is `none`. `badPresence` says that a presence byte sets a
bit that names no setting. -/

/-- SET-STREAM's settings (code 9). -/
structure StreamArgs where
  present : Option Byte
  cls : Option Byte
  direction : Option Byte
  editRank : Option Byte
  mode : Option Byte
  preferred : Option Byte
  stagger : Option Byte
  hold : Option (BitVec 16)
  budgetRaw : Option Byte
  granularity : Option Byte
  priority : Option Byte
  badPresence : Bool
deriving DecidableEq, Repr

/-- CLAIM's setting (code 7): the lapse time in seconds. -/
structure ClaimArgs where
  lapse : Option Byte
  badPresence : Bool
deriving DecidableEq, Repr

/-- COMMIT's setting (code 12): the lead in superframes. -/
structure CommitArgs where
  lead : Option (BitVec 16)
  badPresence : Bool
deriving DecidableEq, Repr

/-- READ-COUNTERS' arguments (code 17). -/
structure CounterArgs where
  group : Byte
  clear : Option Byte
  badPresence : Bool
deriving DecidableEq, Repr

/-- SET-PATH's arguments (code 25). -/
structure PathArgs where
  path : Byte
  calmLen : Option Byte
  stormLen : Option Byte
  probation : Option (BitVec 16)
  degrade : Option Byte
  exposure : Option Byte
  shelterMs : Option (BitVec 16)
  badPresence : Bool
deriving DecidableEq, Repr

/-- SET-RADIO-TIMERS' settings (code 26). -/
structure RadioArgs where
  idle : Option Byte
  standby : Option Byte
  badPresence : Bool
deriving DecidableEq, Repr

/-- SET-STORM's settings (code 28). -/
structure StormArgs where
  fieldPolarity : Option Byte
  flashPolarity : Option Byte
  surgePolarity : Option Byte
  debounceMs : Option Byte
  strikeMs : Option (BitVec 16)
  stormClearMin : Option Byte
  watchClearMin : Option Byte
  badPresence : Bool
deriving DecidableEq, Repr

/-- A command as its frame spells it, whoever sends it: the 34 codes of section 9.6. -/
inductive Request where
  | fetch
  | status
  | reset
  | setRank (requester rank : Byte)
  | pin
  | unpin
  | claim (args : ClaimArgs)
  | release
  | setStream (index : Byte) (args : StreamArgs)
  | clearStream (index : Byte)
  | revert
  | commit (args : CommitArgs)
  | abortSwitch
  | readStream (index copy : Byte)
  | readWindow (index : Byte) (start : BitVec 16) (count : Byte)
  | readPath (path : Byte)
  | readCounters (args : CounterArgs)
  | readEvents
  | clearEvents (kinds : BitVec 32)
  | setEnables (kinds : BitVec 32)
  | readSweep
  | readSwitch
  | tunnel (inner : List Byte)
  | pathEnable (path value : Byte)
  | setPath (args : PathArgs)
  | setRadioTimers (args : RadioArgs)
  | wakeRadio
  | setStorm (args : StormArgs)
  | park
  | wake
  | sweep (path : Byte)
  | suspendSweep
  | resumeSweep
  | abortSweep
deriving DecidableEq, Repr

/-- Where a command comes from: a local port, or PT, executing a TUNNEL-REQUEST that names the far port, that port's
rank and its tag (R177). -/
inductive Source where
  | lp (port : Port)
  | pt (farPort : Port) (farRank : Byte) (tag : Byte)
deriving DecidableEq, Repr

/-- The steps of the terminal: one constructor for each row of spec/opcode_table.json, in the table's order. The first
34 are the commands of the management ports, the others what happens to the part. -/
inductive Instr where
  | fetch (port : Port)
  | status (src : Source)
  | reset (src : Source)
  | setRank (src : Source) (requester rank : Byte)
  | pin (src : Source)
  | unpin (src : Source)
  | claim (src : Source) (args : ClaimArgs)
  | release (src : Source)
  | setStream (src : Source) (index : Byte) (args : StreamArgs)
  | clearStream (src : Source) (index : Byte)
  | revert (src : Source)
  | commit (src : Source) (args : CommitArgs)
  | abortSwitch (src : Source)
  | readStream (src : Source) (index copy : Byte)
  | readWindow (src : Source) (index : Byte) (start : BitVec 16) (count : Byte)
  | readPath (src : Source) (path : Byte)
  | readCounters (src : Source) (args : CounterArgs)
  | readEvents (src : Source)
  | clearEvents (src : Source) (kinds : BitVec 32)
  | setEnables (src : Source) (kinds : BitVec 32)
  | readSweep (src : Source)
  | readSwitch (src : Source)
  | tunnel (src : Source) (inner : List Byte)
  | pathEnable (src : Source) (path value : Byte)
  | setPath (src : Source) (args : PathArgs)
  | setRadioTimers (src : Source) (args : RadioArgs)
  | wakeRadio (src : Source)
  | setStorm (src : Source) (args : StormArgs)
  | park (src : Source)
  | wake (src : Source)
  | sweep (src : Source) (path : Byte)
  | suspendSweep (src : Source)
  | resumeSweep (src : Source)
  | abortSweep (src : Source)
  | frameDiscarded (port : Port)
  | unknownCommand (port : Port) (code : Byte)
  | powerOnReset (roleLine : Role)
  | brownoutReset (roleLine : Role)
  | resetPendingDrained
  | resetPendingLimit
  | ingressCell (stream : StreamIx) (payload : List Byte)
  | outboxMove
  | superframeStart
  | slotStart (path : Path)
  | headerReceived (path : Path) (arrival : HeaderArrival)
  | headerMissing (path : Path)
  | epochSplit (path : Path) (arrival : HeaderArrival)
  | acquisitionComplete (path : Path) (arrival : HeaderArrival)
  | alignmentLoss (path : Path) (event : RxEvent)
  | blockJudged (path : Path) (block : BlockArrival)
  | probationComplete (path : Path) (event : RxEvent)
  | recoveryComplete (path : Path) (event : RxEvent)
  | resync (path : Path) (quality : Quality) (copy : CellArrival)
  | releaseEvent (stream : StreamIx)
  | switchDeadline
  | planSwitch
  | claimLapse
  | idleTimerExpiry
  | standbyTimerExpiry
  | warmupTimerExpiry
  | shelterTimerExpiry (path : Path)
  | fieldChange (lineHigh : Bool)
  | fieldDebounceExpiry
  | flashEdge
  | surgeEdge
  | strikeTimerExpiry
  | stormClearTimerExpiry
  | watchClearTimerExpiry
  | peerForget
  | parkComplete
  | parkingLimit
  | sweepPendingStart
  | sweepStepComplete (path : Path) (event : RxEvent)
  | tunnelTimeout (port : Port)
deriving DecidableEq, Repr

end Sys2Proof
end

