-- ==== Sys2Proof/Decode.lean ====
section
/-! DEFINITION. From bytes to commands: the command frame of section 9.6 (R170), total on any bytes, and after it the
encoder written from the same table. spec/opcode_table.json gives its rows no bits, so `decodeTableWord` answers none. -/

namespace Sys2Proof

/-- spec/opcode_table.json gives no row any bits: no word spells a command. -/
def decodeTableWord (_nbits _w : Nat) : Option Instr := none

/-! ### Reading a frame -/

/-- What the port finds when select is released (R170): nothing, a frame of the wrong length, a code that names no
command, or a command. -/
inductive FrameResult where
  | ignored
  | discarded
  | unknown (code : Byte)
  | request (r : Request)
deriving DecidableEq, Repr

/-- Two bytes as one number, the most significant first (section 9.6). -/
def word16 (hi lo : Byte) : BitVec 16 := hi ++ lo

/-- The more significant byte of a two-byte argument. -/
def hiByte (x : BitVec 16) : Byte := x.extractLsb' 8 8

/-- The less significant byte of a two-byte argument. -/
def loByte (x : BitVec 16) : Byte := x.extractLsb' 0 8

/-- A setting of one byte, if its presence bit is set; none when the frame ends before it. -/
def take1 (given : Bool) (bs : List Byte) : Option (Option Byte × List Byte) :=
  if given then
    match bs with
    | b :: rest => some (some b, rest)
    | [] => none
  else some (none, bs)

/-- A setting of two bytes, if its presence bit is set; none when the frame ends before it. -/
def take2 (given : Bool) (bs : List Byte) : Option (Option (BitVec 16) × List Byte) :=
  if given then
    match bs with
    | hi :: lo :: rest => some (some (word16 hi lo), rest)
    | _ => none
  else some (none, bs)

/-- The request, if the frame ends where it should. -/
def ended (r : Request) : List Byte → Option Request
  | [] => some r
  | _ :: _ => none

/-- SET-STREAM's arguments: two presence bytes, the index, the settings in their order (code 9). -/
def parseSetStream : List Byte → Option Request
  | p1 :: p0 :: index :: bs => do
    let (present, bs) ← take1 (p0.getLsbD 0) bs
    let (cls, bs) ← take1 (p0.getLsbD 1) bs
    let (direction, bs) ← take1 (p0.getLsbD 2) bs
    let (editRank, bs) ← take1 (p0.getLsbD 3) bs
    let (mode, bs) ← take1 (p0.getLsbD 4) bs
    let (preferred, bs) ← take1 (p0.getLsbD 5) bs
    let (stagger, bs) ← take1 (p0.getLsbD 6) bs
    let (hold, bs) ← take2 (p0.getLsbD 7) bs
    let (budgetRaw, bs) ← take1 (p1.getLsbD 0) bs
    let (granularity, bs) ← take1 (p1.getLsbD 1) bs
    let (priority, bs) ← take1 (p1.getLsbD 2) bs
    ended (.setStream index
      { present := present, cls := cls, direction := direction, editRank := editRank, mode := mode,
        preferred := preferred, stagger := stagger, hold := hold, budgetRaw := budgetRaw,
        granularity := granularity, priority := priority, badPresence := decide (p1 &&& 0xF8#8 ≠ 0#8) }) bs
  | _ => none

/-- CLAIM's arguments (code 7). -/
def parseClaim : List Byte → Option Request
  | p :: bs => do
    let (lapse, bs) ← take1 (p.getLsbD 0) bs
    ended (.claim { lapse := lapse, badPresence := decide (p &&& 0xFE#8 ≠ 0#8) }) bs
  | _ => none

/-- COMMIT's arguments (code 12). -/
def parseCommit : List Byte → Option Request
  | p :: bs => do
    let (lead, bs) ← take2 (p.getLsbD 0) bs
    ended (.commit { lead := lead, badPresence := decide (p &&& 0xFE#8 ≠ 0#8) }) bs
  | _ => none

/-- READ-COUNTERS' arguments (code 17). -/
def parseCounters : List Byte → Option Request
  | p :: group :: bs => do
    let (clear, bs) ← take1 (p.getLsbD 0) bs
    ended (.readCounters { group := group, clear := clear, badPresence := decide (p &&& 0xFE#8 ≠ 0#8) }) bs
  | _ => none

/-- SET-PATH's arguments (code 25). -/
def parseSetPath : List Byte → Option Request
  | p :: path :: bs => do
    let (calmLen, bs) ← take1 (p.getLsbD 0) bs
    let (stormLen, bs) ← take1 (p.getLsbD 1) bs
    let (probation, bs) ← take2 (p.getLsbD 2) bs
    let (degrade, bs) ← take1 (p.getLsbD 3) bs
    let (exposure, bs) ← take1 (p.getLsbD 4) bs
    let (shelterMs, bs) ← take2 (p.getLsbD 5) bs
    ended (.setPath
      { path := path, calmLen := calmLen, stormLen := stormLen, probation := probation, degrade := degrade,
        exposure := exposure, shelterMs := shelterMs, badPresence := decide (p &&& 0xC0#8 ≠ 0#8) }) bs
  | _ => none

/-- SET-RADIO-TIMERS' arguments (code 26). -/
def parseRadio : List Byte → Option Request
  | p :: bs => do
    let (idle, bs) ← take1 (p.getLsbD 0) bs
    let (standby, bs) ← take1 (p.getLsbD 1) bs
    ended (.setRadioTimers { idle := idle, standby := standby, badPresence := decide (p &&& 0xFC#8 ≠ 0#8) }) bs
  | _ => none

/-- SET-STORM's arguments (code 28). -/
def parseSetStorm : List Byte → Option Request
  | p :: bs => do
    let (fieldPolarity, bs) ← take1 (p.getLsbD 0) bs
    let (flashPolarity, bs) ← take1 (p.getLsbD 1) bs
    let (surgePolarity, bs) ← take1 (p.getLsbD 2) bs
    let (debounceMs, bs) ← take1 (p.getLsbD 3) bs
    let (strikeMs, bs) ← take2 (p.getLsbD 4) bs
    let (stormClearMin, bs) ← take1 (p.getLsbD 5) bs
    let (watchClearMin, bs) ← take1 (p.getLsbD 6) bs
    ended (.setStorm
      { fieldPolarity := fieldPolarity, flashPolarity := flashPolarity, surgePolarity := surgePolarity,
        debounceMs := debounceMs, strikeMs := strikeMs, stormClearMin := stormClearMin,
        watchClearMin := watchClearMin, badPresence := decide (p &&& 0x80#8 ≠ 0#8) }) bs
  | _ => none

/-- TUNNEL's arguments: the inner length, then as many bytes of the inner frame (code 23). -/
def parseTunnel : List Byte → Option Request
  | len :: inner => if inner.length = len.toNat then some (.tunnel inner) else none
  | [] => none

/-- A frame without arguments. -/
def parseBare (r : Request) (bs : List Byte) : Option Request := ended r bs

/-- A frame with one argument byte. -/
def parseOne (f : Byte → Request) : List Byte → Option Request
  | [x] => some (f x)
  | _ => none

/-- A frame with two argument bytes. -/
def parseTwo (f : Byte → Byte → Request) : List Byte → Option Request
  | [x, y] => some (f x y)
  | _ => none

/-- A frame with a set of kinds: four bytes. -/
def parseKinds (f : BitVec 32 → Request) : List Byte → Option Request
  | [k3, k2, k1, k0] => some (f (k3 ++ k2 ++ k1 ++ k0))
  | _ => none

/-- READ-WINDOW's arguments (code 15). -/
def parseReadWindow : List Byte → Option Request
  | [index, hi, lo, count] => some (.readWindow index (word16 hi lo) count)
  | _ => none

/-- A code byte names a command: codes 0 and 35 to 255 do not (section 9.6). -/
def namesCommand (code : Byte) : Bool := decide (1 ≤ code.toNat) && decide (code.toNat ≤ 34)

/-- The command with the given code and argument bytes, or none when the length is wrong (section 9.6's table). FETCH is
taken at its code byte, whatever follows (R172). -/
def parseArgs (code : Nat) (bs : List Byte) : Option Request :=
  match code with
  | 1 => some .fetch
  | 2 => parseBare .status bs
  | 3 => parseBare .reset bs
  | 4 => parseTwo .setRank bs
  | 5 => parseBare .pin bs
  | 6 => parseBare .unpin bs
  | 7 => parseClaim bs
  | 8 => parseBare .release bs
  | 9 => parseSetStream bs
  | 10 => parseOne .clearStream bs
  | 11 => parseBare .revert bs
  | 12 => parseCommit bs
  | 13 => parseBare .abortSwitch bs
  | 14 => parseTwo .readStream bs
  | 15 => parseReadWindow bs
  | 16 => parseOne .readPath bs
  | 17 => parseCounters bs
  | 18 => parseBare .readEvents bs
  | 19 => parseKinds .clearEvents bs
  | 20 => parseKinds .setEnables bs
  | 21 => parseBare .readSweep bs
  | 22 => parseBare .readSwitch bs
  | 23 => parseTunnel bs
  | 24 => parseTwo .pathEnable bs
  | 25 => parseSetPath bs
  | 26 => parseRadio bs
  | 27 => parseBare .wakeRadio bs
  | 28 => parseSetStorm bs
  | 29 => parseBare .park bs
  | 30 => parseBare .wake bs
  | 31 => parseOne .sweep bs
  | 32 => parseBare .suspendSweep bs
  | 33 => parseBare .resumeSweep bs
  | 34 => parseBare .abortSweep bs
  | _ => none

/-- What a frame is, from its bytes (R170, R172). -/
def parseFrame : List Byte → FrameResult
  | [] => .ignored
  | code :: bs =>
    if namesCommand code then
      match parseArgs code.toNat bs with
      | some r => .request r
      | none => .discarded
    else .unknown code

/-! ### Writing a frame -/

/-- The command code of a request (section 9.6). -/
def requestCode : Request → Byte
  | .fetch => 1
  | .status => 2
  | .reset => 3
  | .setRank _ _ => 4
  | .pin => 5
  | .unpin => 6
  | .claim _ => 7
  | .release => 8
  | .setStream _ _ => 9
  | .clearStream _ => 10
  | .revert => 11
  | .commit _ => 12
  | .abortSwitch => 13
  | .readStream _ _ => 14
  | .readWindow _ _ _ => 15
  | .readPath _ => 16
  | .readCounters _ => 17
  | .readEvents => 18
  | .clearEvents _ => 19
  | .setEnables _ => 20
  | .readSweep => 21
  | .readSwitch => 22
  | .tunnel _ => 23
  | .pathEnable _ _ => 24
  | .setPath _ => 25
  | .setRadioTimers _ => 26
  | .wakeRadio => 27
  | .setStorm _ => 28
  | .park => 29
  | .wake => 30
  | .sweep _ => 31
  | .suspendSweep => 32
  | .resumeSweep => 33
  | .abortSweep => 34

/-- The bytes of an optional setting of one byte. -/
def put1 : Option Byte → List Byte
  | some b => [b]
  | none => []

/-- The bytes of an optional setting of two bytes. -/
def put2 : Option (BitVec 16) → List Byte
  | some x => [hiByte x, loByte x]
  | none => []

/-- A presence byte from its bits, bit 0 first. -/
def presence (b0 b1 b2 b3 b4 b5 b6 b7 : Bool) : Byte :=
  BitVec.ofBool b7 ++ BitVec.ofBool b6 ++ BitVec.ofBool b5 ++ BitVec.ofBool b4 ++ BitVec.ofBool b3 ++
    BitVec.ofBool b2 ++ BitVec.ofBool b1 ++ BitVec.ofBool b0

/-- A set of kinds as its four bytes, the most significant first. -/
def kindBytes (k : BitVec 32) : List Byte :=
  [k.extractLsb' 24 8, k.extractLsb' 16 8, k.extractLsb' 8 8, k.extractLsb' 0 8]

/-- The argument bytes of a request (section 9.6's table). An undefined presence bit is written as the most significant
one of its byte. -/
def requestArgs : Request → List Byte
  | .setRank r k => [r, k]
  | .claim a => presence a.lapse.isSome false false false false false false a.badPresence :: put1 a.lapse
  | .setStream i a =>
    presence a.budgetRaw.isSome a.granularity.isSome a.priority.isSome false false false false a.badPresence ::
      presence a.present.isSome a.cls.isSome a.direction.isSome a.editRank.isSome a.mode.isSome a.preferred.isSome
        a.stagger.isSome a.hold.isSome ::
      i :: (put1 a.present ++ (put1 a.cls ++ (put1 a.direction ++ (put1 a.editRank ++ (put1 a.mode ++
        (put1 a.preferred ++ (put1 a.stagger ++ (put2 a.hold ++ (put1 a.budgetRaw ++ (put1 a.granularity ++
        put1 a.priority))))))))))
  | .clearStream i => [i]
  | .commit a => presence a.lead.isSome false false false false false false a.badPresence :: put2 a.lead
  | .readStream i c => [i, c]
  | .readWindow i st c => [i, hiByte st, loByte st, c]
  | .readPath p => [p]
  | .readCounters a => presence a.clear.isSome false false false false false false a.badPresence :: a.group :: put1 a.clear
  | .clearEvents k => kindBytes k
  | .setEnables k => kindBytes k
  | .tunnel inner => BitVec.ofNat 8 inner.length :: inner
  | .pathEnable p v => [p, v]
  | .setPath a =>
    presence a.calmLen.isSome a.stormLen.isSome a.probation.isSome a.degrade.isSome a.exposure.isSome
      a.shelterMs.isSome false a.badPresence :: a.path ::
      (put1 a.calmLen ++ (put1 a.stormLen ++ (put2 a.probation ++ (put1 a.degrade ++ (put1 a.exposure ++
        put2 a.shelterMs)))))
  | .setRadioTimers a =>
    presence a.idle.isSome a.standby.isSome false false false false false a.badPresence ::
      (put1 a.idle ++ put1 a.standby)
  | .setStorm a =>
    presence a.fieldPolarity.isSome a.flashPolarity.isSome a.surgePolarity.isSome a.debounceMs.isSome
      a.strikeMs.isSome a.stormClearMin.isSome a.watchClearMin.isSome a.badPresence ::
      (put1 a.fieldPolarity ++ (put1 a.flashPolarity ++ (put1 a.surgePolarity ++ (put1 a.debounceMs ++
        (put2 a.strikeMs ++ (put1 a.stormClearMin ++ put1 a.watchClearMin))))))
  | .sweep p => [p]
  | _ => []

/-- The frame of a request: its code byte and its arguments. -/
def encodeRequest (r : Request) : List Byte := requestCode r :: requestArgs r

/-! ### From a frame on a port to a step -/

/-- The step that a command taken on a local port is. -/
def commandOf (p : Port) : Request → Instr
  | .fetch => .fetch p
  | .status => .status (.lp p)
  | .reset => .reset (.lp p)
  | .setRank r k => .setRank (.lp p) r k
  | .pin => .pin (.lp p)
  | .unpin => .unpin (.lp p)
  | .claim a => .claim (.lp p) a
  | .release => .release (.lp p)
  | .setStream i a => .setStream (.lp p) i a
  | .clearStream i => .clearStream (.lp p) i
  | .revert => .revert (.lp p)
  | .commit a => .commit (.lp p) a
  | .abortSwitch => .abortSwitch (.lp p)
  | .readStream i c => .readStream (.lp p) i c
  | .readWindow i st c => .readWindow (.lp p) i st c
  | .readPath q => .readPath (.lp p) q
  | .readCounters a => .readCounters (.lp p) a
  | .readEvents => .readEvents (.lp p)
  | .clearEvents k => .clearEvents (.lp p) k
  | .setEnables k => .setEnables (.lp p) k
  | .readSweep => .readSweep (.lp p)
  | .readSwitch => .readSwitch (.lp p)
  | .tunnel inner => .tunnel (.lp p) inner
  | .pathEnable q v => .pathEnable (.lp p) q v
  | .setPath a => .setPath (.lp p) a
  | .setRadioTimers a => .setRadioTimers (.lp p) a
  | .wakeRadio => .wakeRadio (.lp p)
  | .setStorm a => .setStorm (.lp p) a
  | .park => .park (.lp p)
  | .wake => .wake (.lp p)
  | .sweep q => .sweep (.lp p) q
  | .suspendSweep => .suspendSweep (.lp p)
  | .resumeSweep => .resumeSweep (.lp p)
  | .abortSweep => .abortSweep (.lp p)

/-- The step that a frame on a local port is (R170); a frame of no bytes is none. -/
def stepOfFrame (p : Port) (bytes : List Byte) : Option Instr :=
  match parseFrame bytes with
  | .ignored => none
  | .discarded => some (.frameDiscarded p)
  | .unknown code => some (.unknownCommand p code)
  | .request r => some (commandOf p r)

end Sys2Proof
end

