-- ==== Sys2Proof/Config.lean ====
section
/-! DEFINITION. The free values: what the manual leaves open and no proof may see. Each is a constant with no
body, named by an entry of the assumption log. -/

namespace Sys2Proof

/-- The 16-bit header check over bytes 0 to 13 (R45, section 3.7). The manual gives its width and what it covers,
not how it is computed (assumption log 3). -/
opaque Config.headerCheck : List Byte → BitVec 16

/-- The response-number byte of a record built for PT. PT keeps no response number (R177 and the state table of
chapter 9), so the manual states no value; the argument is the model's own draw counter (assumption log 4). -/
opaque Config.ptResponseNumber : Nat → Byte

/-- Whether READ-STREAM reports a preferred path that is set under TRIPLE. R1 says it is "kept and reported", R8 says
it is "reported absent"; the model takes neither side (assumption log 5). -/
opaque Config.triplePreferredReported : Bool

/-- How many of the three shelter orders of an entry into STRIKE are issued ahead of the change of the effective level while
a sweep runs; three or more stand for all. R126 and R167 let the two fall in either order; the argument is the model's own
draw counter (assumption log 8). -/
opaque Config.ordersAhead : Nat → Nat

end Sys2Proof
end

