-- ==== Sys2Proof/Machine/Constants.lean ====
section
/-! DEFINITION. The fixed numbers of the manual (00_scope, "Numbers shared by all chapters", and the chapters named). -/

namespace Sys2Proof.Machine

/-- The link-time modulus M, in microseconds. -/
def linkModulus : Nat := 65536000

/-- Half of M: the range of a link-time comparison (00_scope, "Link-time comparison"). -/
def halfModulus : Nat := 32768000

/-- How long after a setting of link time a header's echo-of is held against it: a quarter of M on the reference clock,
past any turnaround, and short enough for a half-range comparison (R75, assumption log 44). -/
def staleSpan : Nat := 16384000

/-- The length of a superframe in microseconds. -/
def superframeUs : Nat := 1000

/-- The unit of hold and stagger in microseconds. -/
def unitUs : Nat := 125

/-- Slots per superframe (section 3.1). -/
def slotsOf : Path → Nat
  | .a => 250
  | .b => 250
  | .w => 50

/-- Slot pitch in microseconds (section 3.1). -/
def pitchOf : Path → Nat
  | .a => 4
  | .b => 4
  | .w => 20

/-- Cells in a block of the given length. -/
def cellsOf : BlockLen → Nat
  | .l1 => 1
  | .l2 => 2
  | .l4 => 4
  | .l8 => 8
  | .l16 => 16

/-- The places of the cell store. -/
def storePlaces : Nat := 8192

/-- The largest window span. -/
def maxSpan : Nat := 4096

/-- The capacity of a transmit queue (R34). -/
def queueCap : Nat := 512

/-- The capacity of the system outbox (R32). -/
def outboxCap : Nat := 32

/-- The largest value of a statistic counter. -/
def counterMax : Nat := 65535

/-- The claim-lapse time after a reset, in seconds (R15). -/
def defaultLapseSecs : Nat := 30

/-- The default block lengths of a path (R56). -/
def defaultCalmLen : Path → BlockLen
  | .a => .l8
  | .b => .l8
  | .w => .l4

/-- The default block lengths of a path in a storm (R56). -/
def defaultStormLen : Path → BlockLen
  | .a => .l2
  | .b => .l2
  | .w => .l1

/-- The default probation length in superframes (R69). -/
def defaultProbation : Nat := 200

/-- The default degrade threshold in failed blocks (R69). -/
def defaultDegrade : Nat := 4

/-- The default exposure of a path (R123). -/
def defaultExposed : Path → Bool
  | .a => false
  | .b => true
  | .w => true

/-- The default shelter time of a path in milliseconds (R123). -/
def defaultShelterMs : Path → Nat
  | .a => 0
  | .b => 100
  | .w => 200

/-- The default idle setting, in 100 ms (R70). -/
def defaultIdle : Nat := 50

/-- The default standby setting, in 5 s (R71). -/
def defaultStandby : Nat := 24

/-- The warm-up time of the radio: 250 ms (R72). -/
def warmupUs : Nat := 250000

/-- The peer-forget time: 10 s (R119). -/
def forgetUs : Nat := 10000000

/-- The tunnel timeout: 100 ms (R176). -/
def tunnelUs : Nat := 100000

/-- The limit of a park and of a pending reset, in superframe starts (R127, R181). -/
def drainLimit : Nat := 10

/-- Microseconds in a millisecond, a second and a minute. -/
def msUs : Nat := 1000
def secUs : Nat := 1000000
def minUs : Nat := 60000000

/-- Steps of a margin sweep, and reports of a step (R160). -/
def sweepSteps : Nat := 32
def stepReports : Nat := 64

end Sys2Proof.Machine
end

