-- ==== Sys2Proof/Machine/Parts.lean ====
section
/-! DEFINITION. The data types of the terminal's blocks: what each block of the overview (00_scope) holds. Plain data
only. The state tables that open the chapters say which fields there are. -/

namespace Sys2Proof.Machine

/-! ### Tables over paths, ports, requesters and streams -/

/-- One value for each path. -/
structure PerPath (α : Type) where
  a : α
  b : α
  w : α
deriving DecidableEq, Repr

/-- One value for each local port. -/
structure PerPort (α : Type) where
  lp1 : α
  lp2 : α
deriving DecidableEq, Repr

/-- One value for each requester. -/
structure PerReq (α : Type) where
  lp1 : α
  lp2 : α
  pt : α
deriving DecidableEq, Repr

/-- One value for each stream index, 0 to 31. -/
abbrev PerStream (α : Type) := Vector α 32

/-! ### The stream plan (chapter 1) -/

/-- What a stream carries (section 1.1). -/
inductive StreamClass where
  | system | programme | ret | audio | talk | control
deriving DecidableEq, Repr

/-- Which way a stream runs (section 1.1). -/
inductive Direction where
  | up | down | both
deriving DecidableEq, Repr

/-- How many copies of a cell are made and when they are due (R28, R30). -/
inductive DivMode where
  | single | dual | dualStagger | triple | escalate
deriving DecidableEq, Repr

/-- How budget raw becomes the budget (R2). -/
inductive Granularity where
  | fine | coarse
deriving DecidableEq, Repr

/-- A stream descriptor (section 1.1). `stagger` is the number the descriptor holds, whether or not the mode makes the
field present (R1). -/
structure Descriptor where
  present : Bool
  cls : StreamClass
  direction : Direction
  editRank : Rank
  mode : DivMode
  preferred : Option Path
  stagger : Nat
  hold : Nat
  budgetRaw : Nat
  granularity : Granularity
  priority : Nat
deriving DecidableEq, Repr

/-- A copy of the stream plan: 32 descriptors. -/
abbrev Plan := PerStream Descriptor

/-- The three copies of the plan that READ-STREAM can name (R8). -/
inductive PlanCopy where
  | active | staged | pinned
deriving DecidableEq, Repr

/-- The groups of READ-COUNTERS (section 9.6). -/
inductive CounterGroup where
  | dispatch | framing | supervision | rejoin | storm | switch | ports
deriving DecidableEq, Repr

/-- Why validation fails (R19); FIELD is a responder's reason alone (R143). -/
inductive Reason where
  | classMode | path | stagger | span | store | field
deriving DecidableEq, Repr

/-- The plan block outside the hold-up domain: active plan and epoch (R5), staged plan (R6), edit claim and its lapse
timer in microseconds (R14, R15). -/
structure PlanState where
  active : Plan
  epoch : Epoch
  staged : Plan
  holder : Option Requester
  lapseTimer : Option Nat
  lapseSecs : Nat
deriving DecidableEq, Repr

/-! ### System messages (section 2.3) -/

/-- A descriptor as a PROPOSE carries it: five bytes, each field as wide as the table of section 2.3 gives, so that
undefined numbers can be told (R143). -/
structure WireDesc where
  present : Bool
  cls : BitVec 3
  direction : BitVec 2
  editRank : BitVec 2
  mode : BitVec 3
  preferred : BitVec 2
  granularity : Bool
  priority : BitVec 2
  stagger : BitVec 8
  hold : BitVec 9
  budgetRaw : BitVec 6
deriving DecidableEq, Repr

/-- The reason of a DECLINE (R137). -/
inductive DeclineReason where
  | busy | claimed | tooLate | invalid | collision
deriving DecidableEq, Repr

/-- A system message: kind, sender's role and fields (section 2.3). -/
inductive Message where
  | propose (role : Role) (epoch : Byte) (n : SfNum) (descriptors : List WireDesc)
  | accept (role : Role) (epoch : Byte)
  | decline (role : Role) (epoch : Byte) (reason : DeclineReason) (verdict : Option Reason) (index : Byte)
  | cancel (role : Role) (epoch : Byte)
  | tunnelRequest (role : Role) (port : Port) (rank tag : Byte) (inner : List Byte)
  | tunnelResponse (role : Role) (port : Port) (tag part : Byte) (last : Bool) (data : List Byte)
  | notice (role : Role) (kinds : BitVec 32)
  | parking (role : Role) (strikes : BitVec 16)
deriving DecidableEq, Repr

/-- Whether the park (R129) or the pending reset (R181) waits for a message of the outbox. -/
inductive Awaited where
  | no | park | reset
deriving DecidableEq, Repr

/-- A message of the outbox with what waits for it to leave. -/
structure OutMsg where
  msg : Message
  awaited : Awaited
deriving DecidableEq, Repr

/-- A wait for a message to drain: the superframe starts left to the limit and, once the awaited message has left the
outbox, the stream 0 sequence it took (R127, R129, R181). -/
structure Drain where
  left : Nat
  moved : Option Seq
deriving DecidableEq, Repr

/-! ### Dispatch (chapter 2) -/

/-- A copy record (R34): the cell with this copy's index, its due time, and the priority and the hold in microseconds
taken from the active descriptor at acceptance. -/
structure Copy where
  cell : Cell
  due : Nat
  priority : Nat
  hold : Nat
deriving DecidableEq, Repr

/-- Dispatch: numbering, budget counts, outbox (oldest first), transmit queues (in order of acceptance), counters (R41). -/
structure DispatchState where
  nextSeq : PerStream Seq
  budget : PerStream Nat
  outbox : List OutMsg
  queue : PerPath (List Copy)
  ingressRefused : PerStream Nat
  overBudget : PerStream Nat
  diversityReduced : PerStream Nat
  noPath : PerStream Nat
  queueFull : PerPath Nat
  expired : PerPath Nat
  purged : PerPath Nat
  outboxFull : Nat
deriving DecidableEq, Repr

/-! ### Path framing (chapter 3) -/

/-- The echo record of a path (R46): the send time of the last GOOD header taken and the reference-clock instant of its
arrival. -/
structure Echo where
  sendTime : Nat
  arrivalRef : Nat
deriving DecidableEq, Repr

/-- The transmitting half's place in the superframe: whether slots are being sent, the next slot, whether a closing
header is owed, and the block whose last slot is under way, with its check bytes still to come (R43, R47). -/
structure Transmitter where
  sending : Bool
  nextSlot : Nat
  closing : Bool
  owed : Option Nat
deriving DecidableEq, Repr

/-- The result of a header (R48). -/
inductive HeaderResult where
  | good | failed | missing
deriving DecidableEq, Repr

/-- The superframe whose blocks a receiving half is judging: its header result, its decoding length (R55), the blocks
judged and failed so far, and whether the path entered SWEEP during it (R160). -/
structure RxSuperframe where
  result : HeaderResult
  length : BlockLen
  judged : Nat
  failed : Nat
  partSweep : Bool
deriving DecidableEq, Repr

/-- The framer of a path (chapter 3). `expected` is a reference-clock instant (R48); `parkedMisses` counts the
consecutive results that were not GOOD on path A of a PARKED terminal (R60). -/
structure Framer where
  calmLen : BlockLen
  stormLen : BlockLen
  inUse : BlockLen
  lastGood : BlockLen
  echo : Option Echo
  expected : Option Nat
  parkedMisses : Nat
  tx : Transmitter
  rx : Option RxSuperframe
  blocksClean : Nat
  blocksCorrected : Nat
  blocksFailed : Nat
  headerFailures : Nat
  ownRoleHeaders : Nat
deriving DecidableEq, Repr

/-! ### Path supervision and link time (chapter 4) -/

/-- Path states (R59). -/
inductive PathState where
  | off | acquire | probation | up | degraded | shelter | sweep
deriving DecidableEq, Repr

/-- The most recent counted alignment loss of a path (R65). -/
structure Loss where
  instant : Nat
  used : Bool
deriving DecidableEq, Repr

/-- A setting of link time as a path's supervisor remembers it (R75): the send time of the first header built after it,
and its instant on the reference clock. -/
structure Setting where
  first : Nat
  instant : Nat
deriving DecidableEq, Repr

/-- The supervisor of a path (chapter 4). `delay` is D in 1/8 µs; `shelterTimer` is in microseconds; `lastMuting` and
`lastOffset` are what the last GOOD header told the coincidence test (R65); `probMet` says that the last report found the
probation count at the probation length (R62, R69); `staleUntil` is set while delay samples that echo headers sent before
link time was set are discarded (R75). -/
structure Supervisor where
  state : PathState
  enable : Bool
  acqRun : Nat
  probCount : Nat
  probMet : Bool
  recCount : Nat
  missRun : Nat
  delay : Option Nat
  lastRtt : Option Nat
  shelterTimer : Option Nat
  lastLoss : Option Loss
  lastMuting : Bool
  lastOffset : Int
  staleUntil : Option Setting
  probLen : Nat
  degradeThr : Nat
  exposed : Bool
  shelterMs : Nat
  probDiscards : Nat
  alignLosses : Nat
  samplesDiscarded : Nat
deriving DecidableEq, Repr

/-- W's power modes (section 4.4). -/
inductive PowerMode where
  | active | idle | standby | warmup
deriving DecidableEq, Repr

/-- W's power control (section 4.4); timers in microseconds, settings in their units (R70, R71). -/
structure Radio where
  mode : PowerMode
  idleTimer : Option Nat
  standbyTimer : Option Nat
  warmTimer : Option Nat
  idleSet : Nat
  standbySet : Nat
deriving DecidableEq, Repr

/-- The states of the time-source record (R78). -/
inductive TimeState where
  | free | locked | holdover
deriving DecidableEq, Repr

/-- The terminal's time-source record, its HOLD-SHORT index and the supervision counters kept per terminal (R78 to R82). -/
structure TimeRecord where
  state : TimeState
  source : Option Path
  lastError : Option Int
  holdShort : Option StreamIx
  coincident : Nat
  clamped : Nat
deriving DecidableEq, Repr

/-- A correction being spread over 1,000 µs of the reference clock: its size c and the microseconds spent (R80). -/
structure Slew where
  c : Int
  spent : Nat
deriving DecidableEq, Repr

/-- The clocks. `ref` counts microseconds of the reference clock since power-on; `link` is link time (R77); `owed` is
link time that a slew has added and that has not yet run. `rolled` and `started` say that the budget counts were cleared
for, and the headers built of, the superframe that begins at the present link time. -/
structure Clock where
  ref : Nat
  link : Nat
  slew : Option Slew
  owed : Nat
  rolled : Bool
  started : Bool
deriving DecidableEq, Repr

/-! ### The rejoin window (chapter 5) -/

/-- A HELD slot (R86). -/
structure Held where
  cell : Cell
  path : Path
  quality : Quality
  arrival : Nat
deriving DecidableEq, Repr

/-- The cell store: the HELD places, strictly rising by place; a place that is not listed is EMPTY. -/
abbrev CellStore := List (Nat × Held)

/-- A window record (R86) with its place in the cell store (R85). -/
structure Window where
  anchored : Bool
  nr : Seq
  originMark : Nat
  strayRun : Nat
  next : Option Nat
  span : Nat
  offset : Nat
deriving DecidableEq, Repr

/-- The rejoin counters of a stream index (R109). -/
structure StreamCounts where
  released : Nat
  gapCells : Nat
  duplicates : Nat
  upgrades : Nat
  late : Nat
  early : Nat
  stale : Nat
  strays : Nat
  resyncs : Nat
  flushed : Nat
deriving DecidableEq, Repr

/-- The rejoin counters of a path (R110). -/
structure ArrivalCounts where
  first : Nat
  upgrades : Nat
  duplicates : Nat
  late : Nat
  unplanned : Nat
  unaligned : Nat
deriving DecidableEq, Repr

/-- The rejoin engine. A stream index has a window exactly while it is in the inbound set (R84). -/
structure Rejoin where
  windows : PerStream (Option Window)
  store : CellStore
  counts : PerStream StreamCounts
  arrivals : PerPath ArrivalCounts
  unknownMessages : Nat
deriving DecidableEq, Repr

/-- Why a window was flushed (R102). -/
inductive FlushReason where
  | resync | switch | park | reset
deriving DecidableEq, Repr

/-- A record of the egress port (R107). -/
inductive EgressRecord where
  | cell (stream : StreamIx) (seq : Seq) (quality : Quality) (path : Path) (copyIndex : BitVec 2)
      (payload : List Byte)
  | gap (stream : StreamIx) (first : Seq) (run : Nat)
  | restart (stream : StreamIx) (reason : FlushReason)
deriving DecidableEq, Repr

/-- What a transmitting half puts on its path: a header with its check, the cell of a slot, or the eight check bytes
behind a block (R43, R51). -/
inductive LineItem where
  | header (h : Header) (check : BitVec 16)
  | slot (k : Nat) (cell : Cell)
  | check (block : Nat)
deriving DecidableEq, Repr

/-! ### Storm levels, shelter and parking (chapter 6) -/

/-- Line polarity (R122). -/
inductive Polarity where
  | high | low
deriving DecidableEq, Repr

/-- The parking state (R127 to R132). -/
inductive Parking where
  | onAir
  | parking (wait : Drain)
  | parked
deriving DecidableEq, Repr

/-- The storm unit. Timers are in microseconds; last taken edges are reference-clock instants; `debounceMs`, `strikeMs`,
`stormClearMin` and `watchClearMin` are the settings of R122. -/
structure Storm where
  fieldPolarity : Polarity
  flashPolarity : Polarity
  surgePolarity : Polarity
  debounceMs : Nat
  strikeMs : Nat
  stormClearMin : Nat
  watchClearMin : Nat
  fieldTaken : Bool
  debounce : Option Nat
  lastFlash : Option Nat
  lastSurge : Option Nat
  own : Level
  effective : Level
  strikeTimer : Option Nat
  stormTimer : Option Nat
  watchTimer : Option Nat
  peer : Level
  peerParked : Bool
  forgetTimer : Option Nat
  peerParking : Option Nat
  parking : Parking
  flashTaken : Nat
  flashIgnored : Nat
  surgeTaken : Nat
  surgeIgnored : Nat
  fieldAssertions : Nat
  shelters : PerPath Nat
  lastPathKept : PerPath Nat
  peerForgets : Nat
deriving DecidableEq, Repr

/-- Reset causes (R133). -/
inductive ResetCause where
  | powerOn | brownout | soft | softRemote
deriving DecidableEq, Repr

/-- The hold-up domain (R133, R7). -/
structure HoldUp where
  strikes : Nat
  levelClass : Level
  cause : ResetCause
  pinned : Plan
  pinnedEpoch : Epoch
  pinnedFlag : Bool
deriving DecidableEq, Repr

/-! ### The plan switch (chapter 7) -/

/-- A switch in hand: pending epoch, proposal tag, N and proposing role. -/
structure Pending where
  epoch : Epoch
  tag : Epoch
  n : SfNum
  proposer : Role
deriving DecidableEq, Repr

/-- The switch engine's state (R136). -/
inductive Engine where
  | idle
  | proposing (p : Pending)
  | armed (p : Pending)
deriving DecidableEq, Repr

/-- The outcome of a switch (R136) with the reason where it has one. -/
inductive Outcome where
  | done
  | invalid (reason : Reason) (index : Nat)
  | declined (reason : DeclineReason) (verdict : Option (Option Reason × Nat))
  | noAnswer
  | collided
  | cancelledByPeer
  | aborted
deriving DecidableEq, Repr

/-- The last result record (R136). -/
structure SwitchResult where
  epoch : Epoch
  outcome : Outcome
  proposer : Role
  n : SfNum
deriving DecidableEq, Repr

/-- A cancel run (R142): its epoch, its last superframe, and the superframe in which it last placed a CANCEL. -/
structure CancelRun where
  epoch : Epoch
  last : SfNum
  placedIn : SfNum
deriving DecidableEq, Repr

/-- The switch engine (chapter 7). `refPath` is the epoch reference path (R152). -/
structure Switch where
  engine : Engine
  run : Option CancelRun
  last : Option SwitchResult
  split : Nat
  peerEpoch : Option Epoch
  refPath : Option Path
  sent : Nat
  taken : Nat
  declined : Nat
  cancels : Nat
  lateCancels : Nat
  strayAnswers : Nat
deriving DecidableEq, Repr

/-! ### Margin sweep (chapter 8) -/

/-- A current sweep (R157): its path, the failed-block counts of the completed steps (the step index is their number),
and the reports and failed blocks of the step in progress. -/
structure CurrentSweep where
  path : Path
  counts : List Nat
  taken : Nat
  failed : Nat
deriving DecidableEq, Repr

/-- The sweep engine's state with the sweep it has in hand (R157). -/
inductive SweepEngine where
  | idle
  | pending (c : CurrentSweep)
  | running (c : CurrentSweep)
  | suspended (c : CurrentSweep)
deriving DecidableEq, Repr

/-- How a sweep ended (R157). -/
inductive SweepOutcome where
  | complete | aborted | pathLost
deriving DecidableEq, Repr

/-- The last result record of the sweep engine (R157); steps completed is the number of counts. -/
structure SweepResult where
  path : Path
  outcome : SweepOutcome
  byPark : Bool
  counts : List Nat
  margin : Nat
deriving DecidableEq, Repr

/-- The sweep engine (chapter 8). -/
structure Sweep where
  engine : SweepEngine
  last : Option SweepResult
deriving DecidableEq, Repr

/-! ### Responses (section 9.3) -/

/-- Status codes, in the order of section 9.6's numbers 1 to 20. -/
inductive Status where
  | done | accepted | pending | busy | claimed | notHolder | rank | badArgument | invalid | pathNotReady | lastPath
  | inStorm | sweepActive | sweepSuspended | notSuspended | parked | tunnelPending | tunnelTimeout | lastRankZero
  | unknownCommand
deriving DecidableEq, Repr

/-- The settings that a clamped-fields note can list (R11, R14, R69, R111, R122, R123, R138). -/
inductive ClampField where
  | stagger | hold | budgetRaw | priority | lapse | lead | count | probation | degrade | shelter | debounce
  | strikeTime | stormClear | watchClear
deriving DecidableEq, Repr

/-- The names of the switch engine's states, as STATUS and READ-SWITCH report them. -/
inductive EngineName where
  | idle | proposing | armed
deriving DecidableEq, Repr

/-- The names of the sweep engine's states. -/
inductive SweepName where
  | idle | pending | running | suspended
deriving DecidableEq, Repr

/-- The names of the parking states. -/
inductive ParkName where
  | onAir | parking | parked
deriving DecidableEq, Repr

/-- What READ-STREAM adds for the copy it reads (R8). -/
inductive CopyReading where
  | active (epoch : Epoch) (outbound inbound : Bool)
  | staged (holder : Option Requester)
  | pinned (epoch : Epoch) (flag : Bool)
deriving DecidableEq, Repr

/-- READ-STREAM's body (R8); `none` in stagger and preferred is "reported absent". -/
structure StreamReading where
  present : Bool
  cls : StreamClass
  direction : Direction
  editRank : Rank
  mode : DivMode
  preferred : Option Path
  stagger : Option Nat
  hold : Nat
  budgetRaw : Nat
  granularity : Granularity
  priority : Nat
  budget : Nat
  span : Option Nat
  copy : CopyReading
deriving DecidableEq, Repr

/-- The part of a slot record that a HELD slot adds (R111). -/
structure HeldReading where
  seq : Seq
  path : Path
  copyIndex : BitVec 2
  quality : Quality
  arrival : Nat
  origin : Nat
  release : Nat
deriving DecidableEq, Repr

/-- A slot record of READ-WINDOW (R111). -/
structure SlotReading where
  seq : Seq
  slot : Nat
  place : Nat
  held : Option HeldReading
deriving DecidableEq, Repr

/-- READ-WINDOW's body (R111). -/
structure WindowReading where
  anchored : Bool
  nr : Seq
  originMark : Nat
  strayRun : Nat
  span : Nat
  offset : Nat
  heldCells : Nat
  next : Option (Nat × Seq)
  slots : List SlotReading
deriving DecidableEq, Repr

/-- READ-PATH's body (R82, R56); `power` is given for path W: the mode and its idle, standby and warm-up timers. -/
structure PathReading where
  state : PathState
  enable : Bool
  acqRun : Nat
  probCount : Nat
  recCount : Nat
  missRun : Nat
  delay : Option Nat
  lastRtt : Option Nat
  probLen : Nat
  degradeThr : Nat
  shelterTimer : Option Nat
  calmLen : BlockLen
  stormLen : BlockLen
  inUse : BlockLen
  lastGood : BlockLen
  power : Option (PowerMode × Option Nat × Option Nat × Option Nat)
  timeState : TimeState
  source : Option Path
  lastError : Option Int
  holdShort : Option StreamIx
deriving DecidableEq, Repr

/-- What READ-SWEEP gives of a current sweep (R168). -/
structure SweepReading where
  path : Path
  step : Nat
  taken : Nat
  grade : Nat
  counts : List Nat
deriving DecidableEq, Repr

/-- READ-SWITCH's body (R155); `remaining` is given with the pending switch. -/
structure SwitchReading where
  engine : EngineName
  pending : Option (Pending × Nat)
  run : Option (Epoch × SfNum)
  last : Option SwitchResult
  epoch : Epoch
  refPath : Option Path
  peerEpoch : Option Epoch
  split : Nat
  holds : Bool
deriving DecidableEq, Repr

/-- The storm unit's part of STATUS (R135). -/
structure StormReading where
  own : Level
  peer : Level
  effective : Level
  fieldTaken : Bool
  debounce : Option Nat
  strikeTimer : Option Nat
  stormTimer : Option Nat
  watchTimer : Option Nat
  forgetTimer : Option Nat
  parking : ParkName
  peerParked : Bool
  peerParking : Option Nat
  strikes : Nat
  cause : ResetCause
deriving DecidableEq, Repr

/-- The event part of STATUS (R185). -/
structure EventReading where
  set : KindSet
  enables : KindSet
  both : KindSet
  holds : KindSet
  attention : Option Bool
deriving DecidableEq, Repr

/-- STATUS's body (R175). -/
structure StatusReading where
  role : Role
  cause : ResetCause
  ranks : PerReq Rank
  holder : Option Requester
  engine : EngineName
  epoch : Epoch
  sweep : SweepName
  paths : PerPath PathState
  power : PowerMode
  timeState : TimeState
  resetPending : Bool
  tunnel : Option (Byte × Nat)
  storm : StormReading
  events : EventReading
deriving DecidableEq, Repr

/-- A number of a body with the bytes it takes. -/
structure Field where
  bytes : Nat
  value : Nat
deriving DecidableEq, Repr

/-- The body of a response, by what it answers. `raw` is the body of a record that came through the tunnel. -/
inductive Body where
  | none
  | holder (h : Option Requester)
  | index (i : Nat)
  | verdict (reason : Reason) (index : Nat)
  | proposal (epoch : Epoch) (n : SfNum)
  | stream (r : StreamReading)
  | window (r : WindowReading)
  | path (r : PathReading)
  | counters (values : List Nat) (readings : List Field)
  | events (set enables both holds : KindSet) (peerNotice : Option KindSet)
  | cleared (set stayed : KindSet)
  | sweep (engine : SweepName) (current : Option SweepReading) (last : Option SweepResult)
  | switch (r : SwitchReading)
  | status (r : StatusReading)
  | raw (bytes : List Byte)
deriving DecidableEq, Repr

/-- A response record (section 9.6): code, status, flags, number, clamped-fields note and body. -/
structure Record where
  code : Byte
  status : Byte
  tunnelled : Bool
  repeated : Bool
  noted : Bool
  number : Byte
  note : List ClampField
  body : Body
deriving DecidableEq, Repr

/-! ### Management ports (chapter 9) and events (chapter 10) -/

/-- An outstanding tunnel (R176, R178): its tag, its timeout in microseconds, the parts kept, and the number of the
marked last part once it came. -/
structure Tunnel where
  tag : Byte
  timeout : Nat
  parts : List (Nat × List Byte)
  lastPart : Option Nat
deriving DecidableEq, Repr

/-- A local port. `slot` is the response slot with its fetched mark; `dataOut` is the record most recently put on data
out by a FETCH. -/
structure PortState where
  slot : Option (Record × Bool)
  lastFetched : Option Record
  number : Byte
  tunnel : Option Tunnel
  tag : Byte
  dataOut : Option Record
  framesDiscarded : Nat
  unknownCommands : Nat
  responsesDiscarded : Nat
  tunnelsSent : Nat
  tunnelTimeouts : Nat
  lateResponses : Nat
deriving DecidableEq, Repr

/-- The management ports. `draws` is the model's own count of the free values drawn (assumption log 4). -/
structure Ports where
  ranks : PerReq Rank
  lp : PerPort PortState
  resetPending : Option Drain
  executed : Nat
  draws : Nat
deriving DecidableEq, Repr

/-- The event unit: event and enable sets, the condition kinds that hold now (R184), the peer notice record (R187). -/
structure Events where
  sets : PerReq KindSet
  enables : PerReq KindSet
  holds : KindSet
  peerNotice : Option KindSet
deriving DecidableEq, Repr

/-- What has left the part, oldest first: the records of the egress port and the items of each path's line. The model's
own record of the outputs (assumption log 2). -/
structure Outputs where
  egress : List EgressRecord
  lines : PerPath (List LineItem)
deriving DecidableEq, Repr

end Sys2Proof.Machine
end

