-- ==== Sys2Proof/Machine/Tables.lean ====
section
/-! DEFINITION. Reading and writing the tables kept per path, port, requester and stream. -/

namespace Sys2Proof.Machine

/-- The paths in the order A, B, W ("the first available path", 00_scope). -/
def allPaths : List Path := [.a, .b, .w]

def PerPath.get {α : Type} (t : PerPath α) : Path → α
  | .a => t.a
  | .b => t.b
  | .w => t.w

def PerPath.set {α : Type} (t : PerPath α) (p : Path) (x : α) : PerPath α :=
  match p with
  | .a => { t with a := x }
  | .b => { t with b := x }
  | .w => { t with w := x }

def PerPath.of {α : Type} (f : Path → α) : PerPath α := ⟨f .a, f .b, f .w⟩

def PerPath.upd {α : Type} (t : PerPath α) (p : Path) (f : α → α) : PerPath α := t.set p (f (t.get p))

def PerPort.get {α : Type} (t : PerPort α) : Port → α
  | .lp1 => t.lp1
  | .lp2 => t.lp2

def PerPort.set {α : Type} (t : PerPort α) (p : Port) (x : α) : PerPort α :=
  match p with
  | .lp1 => { t with lp1 := x }
  | .lp2 => { t with lp2 := x }

def PerReq.get {α : Type} (t : PerReq α) : Requester → α
  | .lp1 => t.lp1
  | .lp2 => t.lp2
  | .pt => t.pt

def PerReq.set {α : Type} (t : PerReq α) (r : Requester) (x : α) : PerReq α :=
  match r with
  | .lp1 => { t with lp1 := x }
  | .lp2 => { t with lp2 := x }
  | .pt => { t with pt := x }

def PerReq.of {α : Type} (f : Requester → α) : PerReq α := ⟨f .lp1, f .lp2, f .pt⟩

/-- The value of a stream index. -/
def sget {α : Type} (t : PerStream α) (i : StreamIx) : α := t[i.val]

/-- The table with the value of one stream index replaced. -/
def sset {α : Type} (t : PerStream α) (i : StreamIx) (x : α) : PerStream α := t.set i.val x

/-- The table with the value of one stream index changed. -/
def supd {α : Type} (t : PerStream α) (i : StreamIx) (f : α → α) : PerStream α := sset t i (f (sget t i))

/-- The table that gives each stream index the value of a function. -/
def sof {α : Type} (f : StreamIx → α) : PerStream α := Vector.ofFn f

/-- The table that gives each stream index the same value. -/
def sall {α : Type} (x : α) : PerStream α := Vector.replicate 32 x

/-- The stream indices 0 to 31 in ascending order. -/
def allStreams : List StreamIx := List.finRange 32

end Sys2Proof.Machine
end

