-- ==== Sys2Proof/Machine/Operands.lean ====
section
/-! DEFINITION. The value numbers of section 9.6 read from argument bytes, and the clamping of numeric settings. A
number that names no value of its argument is `none`. -/

namespace Sys2Proof.Machine

def pathOf (b : Byte) : Option Path :=
  match b.toNat with
  | 0 => some .a
  | 1 => some .b
  | 2 => some .w
  | _ => none

def requesterOf (b : Byte) : Option Requester :=
  match b.toNat with
  | 0 => some .lp1
  | 1 => some .lp2
  | 2 => some .pt
  | _ => none

/-- A rank argument: above 3 is refused, not clamped (R174, R11). -/
def rankOf (b : Byte) : Option Rank := if h : b.toNat < 4 then some ⟨b.toNat, h⟩ else none

def copyOf (b : Byte) : Option PlanCopy :=
  match b.toNat with
  | 0 => some .active
  | 1 => some .staged
  | 2 => some .pinned
  | _ => none

def groupOf (b : Byte) : Option CounterGroup :=
  match b.toNat with
  | 0 => some .dispatch
  | 1 => some .framing
  | 2 => some .supervision
  | 3 => some .rejoin
  | 4 => some .storm
  | 5 => some .switch
  | 6 => some .ports
  | _ => none

/-- A yes or no, an on or off, a clear option: 0 or 1. -/
def flagOf (b : Byte) : Option Bool :=
  match b.toNat with
  | 0 => some false
  | 1 => some true
  | _ => none

def classOfNat : Nat → Option StreamClass
  | 0 => some .system
  | 1 => some .programme
  | 2 => some .ret
  | 3 => some .audio
  | 4 => some .talk
  | 5 => some .control
  | _ => none

def directionOfNat : Nat → Option Direction
  | 0 => some .up
  | 1 => some .down
  | 2 => some .both
  | _ => none

def modeOfNat : Nat → Option DivMode
  | 0 => some .single
  | 1 => some .dual
  | 2 => some .dualStagger
  | 3 => some .triple
  | 4 => some .escalate
  | _ => none

/-- A preferred path: 0 is absent. -/
def preferredOfNat : Nat → Option (Option Path)
  | 0 => some none
  | 1 => some (some .a)
  | 2 => some (some .b)
  | 3 => some (some .w)
  | _ => none

def granularityOfNat : Nat → Option Granularity
  | 0 => some .fine
  | 1 => some .coarse
  | _ => none

/-- A class that SET-STREAM may give: any defined one but SYSTEM (R11). -/
def editClassOf (b : Byte) : Option StreamClass :=
  match classOfNat b.toNat with
  | some .system => none
  | c => c

/-- A direction that SET-STREAM may give: any defined one but BOTH (R11). -/
def editDirectionOf (b : Byte) : Option Direction :=
  match directionOfNat b.toNat with
  | some .both => none
  | d => d

def modeOf (b : Byte) : Option DivMode := modeOfNat b.toNat

def preferredOf (b : Byte) : Option (Option Path) := preferredOfNat b.toNat

def granularityOf (b : Byte) : Option Granularity := granularityOfNat b.toNat

def polarityOf (b : Byte) : Option Polarity :=
  match b.toNat with
  | 0 => some .high
  | 1 => some .low
  | _ => none

/-- A block length given in cells (R56). -/
def blockLenOf (b : Byte) : Option BlockLen :=
  match b.toNat with
  | 1 => some .l1
  | 2 => some .l2
  | 4 => some .l4
  | 8 => some .l8
  | 16 => some .l16
  | _ => none

/-- A block length code of a header: 5 to 7 are undefined (section 3.7). -/
def lengthOfCode (c : BitVec 3) : Option BlockLen :=
  match c.toNat with
  | 0 => some .l1
  | 1 => some .l2
  | 2 => some .l4
  | 3 => some .l8
  | 4 => some .l16
  | _ => none

/-- The code of a block length (section 3.7). -/
def codeOfLength : BlockLen → BitVec 3
  | .l1 => 0
  | .l2 => 1
  | .l4 => 2
  | .l8 => 3
  | .l16 => 4

/-- A stream index argument: above 31 is none. -/
def streamOf (b : Byte) : Option StreamIx := if h : b.toNat < 32 then some ⟨b.toNat, h⟩ else none

/-- The value of an enumerated setting that may be left out: `none` when it is given and undefined. -/
def checked {α : Type} (f : Byte → Option α) : Option Byte → Option (Option α)
  | none => some none
  | some b => (f b).map some

/-- A value clamped to a range (R11): below the range the lower limit, above it the upper. -/
def clampTo (lo hi x : Nat) : Nat := max lo (min hi x)

/-- A numeric setting that may be left out, clamped, with its entry in the clamped-fields note. -/
def clampSetting (name : ClampField) (lo hi : Nat) : Option Nat → Option Nat × List ClampField
  | none => (none, [])
  | some x => (some (clampTo lo hi x), if clampTo lo hi x = x then [] else [name])

end Sys2Proof.Machine
end

