-- ==== Sys2Proof/Machine/Plan.lean ====
section
/-! DEFINITION. What follows from a stream plan alone: budget, span, direction at an end, window layout, validation
(chapter 1, R84, R85). -/

namespace Sys2Proof.Machine

/-- The budget of a stream (R2). -/
def budgetOf (d : Descriptor) : Nat :=
  match d.granularity with
  | .fine => d.budgetRaw
  | .coarse => d.budgetRaw * 4 + 3

/-- The hold in microseconds. -/
def holdUs (d : Descriptor) : Nat := d.hold * unitUs

/-- The superframes over which cells can wait for release: ceil(hold in µs / 1,000) + 1 (R3). -/
def superframesHeld (d : Descriptor) : Nat := (holdUs d + 999) / superframeUs + 1

/-- The number that the span must reach (R3). -/
def spanNeed (d : Descriptor) : Nat := max 16 (budgetOf d * superframesHeld d)

/-- The span: the smallest power of two from 16 that is at least `spanNeed` (R3). The need of a descriptor in range is
at most 255 × 41, so 16,384 is the largest that can come about. -/
def spanOf (d : Descriptor) : Nat :=
  ([16, 32, 64, 128, 256, 512, 1024, 2048, 4096, 8192].find? (fun p => decide (spanNeed d ≤ p))).getD 16384

/-- A direction is outbound at an end: UP at the MAST, DOWN at the TRUCK, BOTH at either (00_scope). -/
def runsOut : Role → Direction → Bool
  | .mast, .up => true
  | .truck, .down => true
  | _, .both => true
  | _, _ => false

/-- A direction is inbound at an end: DOWN at the MAST, UP at the TRUCK, BOTH at either (R84). -/
def runsIn : Role → Direction → Bool
  | .mast, .down => true
  | .truck, .up => true
  | _, .both => true
  | _, _ => false

/-- The stream is in the inbound set (R84). -/
def inbound (role : Role) (d : Descriptor) : Bool := d.present && runsIn role d.direction

/-- The mode makes the stagger field present (R1). -/
def staggered : DivMode → Bool
  | .dualStagger => true
  | .escalate => true
  | _ => false

/-- The offset of a stream's window: the sum of the spans of the inbound streams of lower index (R85). -/
def offsetOf (role : Role) (plan : Plan) (i : StreamIx) : Nat :=
  allStreams.foldl
    (fun acc j => if decide (j < i) && inbound role (sget plan j) then acc + spanOf (sget plan j) else acc) 0

/-- A window that has just been laid out: unanchored, every slot EMPTY (R86). NR and the origin mark have no meaning
before it anchors; the model starts them at 0 (assumption log 6). -/
def freshWindow (span offset : Nat) : Window :=
  { anchored := false, nr := 0, originMark := 0, strayRun := 0, next := none, span := span, offset := offset }

/-- The windows of the inbound set of a plan, each just laid out (R85). -/
def layoutWindows (role : Role) (plan : Plan) : PerStream (Option Window) :=
  sof fun i =>
    if inbound role (sget plan i) then some (freshWindow (spanOf (sget plan i)) (offsetOf role plan i)) else none

/-! ### Validation -/

/-- The validity table of R18. -/
def classModeOk : StreamClass → DivMode → Bool
  | .programme, .single => false
  | .talk, .dualStagger => false
  | .talk, .escalate => false
  | .system, .triple => true
  | .system, _ => false
  | _, _ => true

/-- The CLASS-MODE rule refuses the descriptor (R18). -/
def classModeFails (i : StreamIx) (d : Descriptor) : Bool :=
  !classModeOk d.cls d.mode || (decide (i ≠ 0) && (decide (d.cls = .system) || decide (d.direction = .both)))

/-- The PATH rule refuses the descriptor (R19, order 2). -/
def pathFails (d : Descriptor) : Bool := decide (d.mode ≠ .triple) && d.preferred.isNone

/-- The STAGGER rule refuses the descriptor (R19, order 3). -/
def staggerFails (d : Descriptor) : Bool :=
  staggered d.mode && (decide (d.stagger = 0) || decide (d.hold < d.stagger + 4))

/-- The SPAN rule refuses the descriptor (R19, order 4). -/
def spanFails (d : Descriptor) : Bool := decide (maxSpan < spanOf d)

/-- The first of the rules 1 to 4 of R19 that the descriptor fails. -/
def descriptorFault (i : StreamIx) (d : Descriptor) : Option Reason :=
  if classModeFails i d then some .classMode
  else if pathFails d then some .path
  else if staggerFails d then some .stagger
  else if spanFails d then some .span
  else none

/-- What a present descriptor adds to the UP total. -/
def upSpan (d : Descriptor) : Nat := if d.direction = .down then 0 else spanOf d

/-- What a present descriptor adds to the DOWN total. -/
def downSpan (d : Descriptor) : Nat := if d.direction = .up then 0 else spanOf d

/-- The walk of R19 from given totals. -/
def validateFrom : List (StreamIx × Descriptor) → Nat → Nat → Option (Reason × Nat)
  | [], _, _ => none
  | (i, d) :: rest, up, down =>
    if d.present = false then validateFrom rest up down
    else
      match descriptorFault i d with
      | some r => some (r, i.val)
      | none =>
        if storePlaces < up + upSpan d || storePlaces < down + downSpan d then some (.store, i.val)
        else validateFrom rest (up + upSpan d) (down + downSpan d)

/-- The verdict on a plan: the first failure with its index, or none (R19). -/
def validate (plan : Plan) : Option (Reason × Nat) :=
  validateFrom (allStreams.map fun i => (i, sget plan i)) 0 0

end Sys2Proof.Machine
end

