-- ==== Sys2Proof/Machine/Defaults.lean ====
section
/-! DEFINITION. What each block holds after a reset (R22, R42, R58, R83, R106, R134, R153, R169, R182, R188). -/

namespace Sys2Proof.Machine

/-- Descriptor 0, fixed in every copy of the plan (R4). -/
def systemDescriptor : Descriptor :=
  { present := true, cls := .system, direction := .both, editRank := 0, mode := .triple, preferred := none,
    stagger := 0, hold := 16, budgetRaw := 16, granularity := .fine, priority := 3 }

/-- Descriptors 1 to 31 of the default plan (R22). -/
def defaultDescriptor : Descriptor :=
  { present := false, cls := .ret, direction := .up, editRank := 3, mode := .single, preferred := some .a,
    stagger := 0, hold := 16, budgetRaw := 0, granularity := .fine, priority := 0 }

/-- The default plan (R22). -/
def defaultPlan : Plan := sset (sall defaultDescriptor) 0 systemDescriptor

/-- The hold-up domain after a power-on reset (R133, R22). -/
def clearedHoldUp : HoldUp :=
  { strikes := 0, levelClass := .calm, cause := .powerOn, pinned := defaultPlan, pinnedEpoch := 0, pinnedFlag := false }

/-- The plan and epoch that a reset installs from the hold-up domain it leaves (R22). -/
def installedPlan (h : HoldUp) : Plan := if h.pinnedFlag then h.pinned else defaultPlan

def installedEpoch (h : HoldUp) : Epoch := if h.pinnedFlag then h.pinnedEpoch else 0

/-- The plan block after a reset (R22). -/
def resetPlan (h : HoldUp) : PlanState :=
  { active := installedPlan h, epoch := installedEpoch h, staged := installedPlan h, holder := none,
    lapseTimer := none, lapseSecs := defaultLapseSecs }

/-- Dispatch after a reset (R42). -/
def resetDispatch : DispatchState :=
  { nextSeq := sall 0, budget := sall 0, outbox := [], queue := ⟨[], [], []⟩, ingressRefused := sall 0,
    overBudget := sall 0, diversityReduced := sall 0, noPath := sall 0, queueFull := ⟨0, 0, 0⟩,
    expired := ⟨0, 0, 0⟩, purged := ⟨0, 0, 0⟩, outboxFull := 0 }

/-- The framer of a path after a reset (R58). The length in use before the first superframe start is the calm default
(assumption log 6). -/
def resetFramer (p : Path) : Framer :=
  { calmLen := defaultCalmLen p, stormLen := defaultStormLen p, inUse := defaultCalmLen p,
    lastGood := defaultCalmLen p, echo := none, expected := none, parkedMisses := 0,
    tx := { sending := false, nextSlot := 0, closing := false, owed := none }, rx := none, blocksClean := 0, blocksCorrected := 0,
    blocksFailed := 0, headerFailures := 0, ownRoleHeaders := 0 }

/-- The supervisor of a path after a reset (R83, R123). -/
def resetSupervisor (p : Path) : Supervisor :=
  { state := .acquire, enable := true, acqRun := 0, probCount := 0, probMet := false, recCount := 0, missRun := 0, delay := none,
    lastRtt := none, shelterTimer := none, lastLoss := none, lastMuting := false, lastOffset := 0, staleUntil := none,
    probLen := defaultProbation, degradeThr := defaultDegrade, exposed := defaultExposed p,
    shelterMs := defaultShelterMs p, probDiscards := 0, alignLosses := 0, samplesDiscarded := 0 }

/-- W's power control after a reset at the given effective level (R74, R83). -/
def resetRadio (effective : Level) : Radio :=
  { mode := .active, idleTimer := if effective = .calm then some (defaultIdle * 100 * msUs) else none,
    standbyTimer := none, warmTimer := none, idleSet := defaultIdle, standbySet := defaultStandby }

/-- The time-source record after a reset (R77, R83). -/
def resetTime : TimeRecord :=
  { state := .free, source := none, lastError := none, holdShort := none, coincident := 0, clamped := 0 }

def zeroCounts : StreamCounts :=
  { released := 0, gapCells := 0, duplicates := 0, upgrades := 0, late := 0, early := 0, stale := 0, strays := 0,
    resyncs := 0, flushed := 0 }

def zeroArrivals : ArrivalCounts :=
  { first := 0, upgrades := 0, duplicates := 0, late := 0, unplanned := 0, unaligned := 0 }

/-- The rejoin engine after a reset: the windows of the installed plan laid out, the cell store empty (R106). -/
def resetRejoin (role : Role) (plan : Plan) : Rejoin :=
  { windows := layoutWindows role plan, store := [], counts := sall zeroCounts,
    arrivals := ⟨zeroArrivals, zeroArrivals, zeroArrivals⟩, unknownMessages := 0 }

/-- The restart markers that a reset sends before any other egress record (R106). -/
def resetMarkers (role : Role) (plan : Plan) : List EgressRecord :=
  (allStreams.filter fun i => decide (i ≠ 0) && inbound role (sget plan i)).map fun i => .restart i .reset

/-- The own level that a reset restores from the own level class it finds (R134). -/
def restoredLevel : Level → Level
  | .calm => .calm
  | .watch => .watch
  | .storm => .storm
  | .strike => .storm

/-- The storm unit after a reset, with the own level restored and its timer started (R134, R122). -/
def resetStorm (own : Level) : Storm :=
  { fieldPolarity := .high, flashPolarity := .high, surgePolarity := .high, debounceMs := 20, strikeMs := 2000,
    stormClearMin := 20, watchClearMin := 10, fieldTaken := false, debounce := some (20 * msUs), lastFlash := none,
    lastSurge := none, own := own, effective := own, strikeTimer := none,
    stormTimer := if own = .storm then some (20 * minUs) else none,
    watchTimer := if own = .watch then some (10 * minUs) else none,
    peer := .calm, peerParked := false, forgetTimer := none, peerParking := none, parking := .onAir, flashTaken := 0,
    flashIgnored := 0, surgeTaken := 0, surgeIgnored := 0, fieldAssertions := 0, shelters := ⟨0, 0, 0⟩,
    lastPathKept := ⟨0, 0, 0⟩, peerForgets := 0 }

/-- The switch engine after a reset (R153). -/
def resetSwitch : Switch :=
  { engine := .idle, run := none, last := none, split := 0, peerEpoch := none, refPath := none, sent := 0, taken := 0,
    declined := 0, cancels := 0, lateCancels := 0, strayAnswers := 0 }

/-- The sweep engine after a reset (R169). -/
def resetSweep : Sweep := { engine := .idle, last := none }

/-- A local port after a reset (R171, R182). -/
def resetPort : PortState :=
  { slot := none, lastFetched := none, number := 0, tunnel := none, tag := 0, dataOut := none, framesDiscarded := 0,
    unknownCommands := 0, responsesDiscarded := 0, tunnelsSent := 0, tunnelTimeouts := 0, lateResponses := 0 }

/-- The management ports after a reset: the default ranks, no tunnel, no reset pending (R174, R182). The draw counter of
the free values goes on (assumption log 4). -/
def resetPorts (draws : Nat) : Ports :=
  { ranks := ⟨0, 2, 1⟩, lp := ⟨resetPort, resetPort⟩, resetPending := none, executed := 0, draws := draws }

/-- The bit of an event kind (section 10.1): row i of its table is bit i. -/
def kindBit (i : Nat) : KindSet := BitVec.ofNat 24 (2 ^ i)

def kindInStorm : KindSet := kindBit 6

def kindRestart : KindSet := kindBit 23

/-- The event unit after a reset: RESTART in every set, IN-STORM too when the storm unit restores STORM (R188). -/
def resetEvents (effective : Level) : Events :=
  { sets := if effective = .storm then ⟨kindRestart ||| kindInStorm, kindRestart ||| kindInStorm,
        kindRestart ||| kindInStorm⟩ else ⟨kindRestart, kindRestart, kindRestart⟩,
    enables := ⟨0, 0, 0⟩, holds := if effective = .storm then kindInStorm else 0, peerNotice := none }

end Sys2Proof.Machine
end

