-- ==== Sys2Proof/Machine/State.lean ====
section
/-! DEFINITION. The terminal's state, its value after reset, and the ways a step can stop. -/

namespace Sys2Proof.Machine

/-- The state of a T24 terminal: everything the state tables of chapters 1 to 10 list, its input lines, its outputs, and
the commands that wait. -/
structure State where
  /-- The commands waiting, first in first out. -/
  pending : List Instr
  /-- The ROLE input line (low is MAST) as it stands (R77). -/
  roleLine : Role
  /-- The electrical level of the FIELD line, true for high (R112). -/
  fieldLine : Bool
  /-- The role taken at the last reset (R77). -/
  role : Role
  clock : Clock
  plan : PlanState
  disp : DispatchState
  framer : PerPath Framer
  sup : PerPath Supervisor
  radio : Radio
  time : TimeRecord
  rejoin : Rejoin
  storm : Storm
  holdUp : HoldUp
  switch : Switch
  sweep : Sweep
  ports : Ports
  ev : Events
  out : Outputs
  /-- The model's own count of the open orders drawn so far (assumption log 8); no reset sets it back. -/
  choices : Nat
deriving DecidableEq, Repr

/-- Why the machine stops. It has no constructor: no rule of the manual stops the terminal, and no meaning does. -/
inductive Fault where
deriving DecidableEq, Repr

/-- Why a command has no outcome. -/
inductive Refusal where
  /-- Raised by exec's arm of a row that has no meaning yet; safe, since it claims nothing of the row. No arm raises it. -/
  | notModelled (mnemonic : String)
deriving DecidableEq, Repr

/-- The state of a terminal that has just been reset: the blocks that a reset sets, from the hold-up domain that it
leaves; the lines, the clock, the outputs, the queue and the model's two draw counters are given. -/
def State.afterReset (pending : List Instr) (roleLine : Role) (fieldLine : Bool) (clock : Clock) (holdUp : HoldUp)
    (draws choices : Nat) (out : Outputs) : State :=
  { pending := pending, roleLine := roleLine, fieldLine := fieldLine, role := roleLine, clock := clock,
    plan := resetPlan holdUp, disp := resetDispatch, framer := PerPath.of resetFramer, sup := PerPath.of resetSupervisor,
    radio := resetRadio (restoredLevel holdUp.levelClass), time := resetTime,
    rejoin := resetRejoin roleLine (installedPlan holdUp), storm := resetStorm (restoredLevel holdUp.levelClass),
    holdUp := { holdUp with levelClass := restoredLevel holdUp.levelClass }, switch := resetSwitch, sweep := resetSweep,
    ports := resetPorts draws, ev := resetEvents (restoredLevel holdUp.levelClass),
    out := { out with egress := out.egress ++ resetMarkers roleLine (installedPlan holdUp) }, choices := choices }

/-- The clock after a power-on reset: link time 0 (R77). The first superframe starts after the reset, not at its instant
(R58, assumption log 1). -/
def powerOnClock : Clock :=
  { ref := 0, link := 0, slew := none, owed := 0, rolled := true, started := true }

/-- The terminal right after a power-on reset, with ROLE low and FIELD low (assumption log 6). -/
def State.reset : State :=
  State.afterReset [] .mast false powerOnClock clearedHoldUp 0 0 { egress := [], lines := ⟨[], [], []⟩ }

end Sys2Proof.Machine
end

