-- ==== Sys2Proof/Machine/Ops.lean ====
section
/-! DEFINITION. The operations every block shares: link-time arithmetic, saturating counters, changes of one block of
the state, placing a message in the system outbox. -/

namespace Sys2Proof.Machine

/-! ### Link time (00_scope, "Link-time comparison") -/

/-- A link time plus a duration, modulo M. -/
def tadd (a d : Nat) : Nat := (a + d) % linkModulus

/-- The difference of two link times, (a − b) mod M. -/
def tsub (a b : Nat) : Nat := (a + (linkModulus - b % linkModulus)) % linkModulus

/-- Time `a` is at or after time `b`. -/
def atOrAfter (a b : Nat) : Bool := decide (tsub a b < halfModulus)

/-- The difference a − b taken modulo M into the range −32,768,000 to 32,767,999 (R65, R79). -/
def signedSub (a b : Nat) : Int :=
  if tsub a b < halfModulus then (tsub a b : Int) else (tsub a b : Int) - (linkModulus : Int)

/-- A link time moved by a signed amount, modulo M. -/
def tmove (a : Nat) (e : Int) : Nat := (((a : Int) + e) % (linkModulus : Int)).toNat

/-- The number of the superframe a link time lies in. -/
def superframeOf (link : Nat) : SfNum := BitVec.ofNat 16 (link / superframeUs)

/-- The distance of a sequence number from a reference (00_scope, "Sequence distance"). -/
def seqDist (s r : Seq) : Nat := (s - r).toNat

/-! ### Counters: 16 bits, saturating -/

def bump (n : Nat) : Nat := min counterMax (n + 1)

def bumpBy (k n : Nat) : Nat := min counterMax (n + k)

/-! ### Changing one block of the state -/

def modClock (f : Clock → Clock) (s : State) : State := { s with clock := f s.clock }

def modPlan (f : PlanState → PlanState) (s : State) : State := { s with plan := f s.plan }

def modDisp (f : DispatchState → DispatchState) (s : State) : State := { s with disp := f s.disp }

def modFramer (p : Path) (f : Framer → Framer) (s : State) : State := { s with framer := s.framer.upd p f }

def modSup (p : Path) (f : Supervisor → Supervisor) (s : State) : State := { s with sup := s.sup.upd p f }

def modRadio (f : Radio → Radio) (s : State) : State := { s with radio := f s.radio }

def modTime (f : TimeRecord → TimeRecord) (s : State) : State := { s with time := f s.time }

def modRejoin (f : Rejoin → Rejoin) (s : State) : State := { s with rejoin := f s.rejoin }

def modStorm (f : Storm → Storm) (s : State) : State := { s with storm := f s.storm }

def modHoldUp (f : HoldUp → HoldUp) (s : State) : State := { s with holdUp := f s.holdUp }

def modSwitch (f : Switch → Switch) (s : State) : State := { s with switch := f s.switch }

def modSweep (f : Sweep → Sweep) (s : State) : State := { s with sweep := f s.sweep }

def modPorts (f : Ports → Ports) (s : State) : State := { s with ports := f s.ports }

def modPort (p : Port) (f : PortState → PortState) (s : State) : State :=
  { s with ports := { s.ports with lp := s.ports.lp.set p (f (s.ports.lp.get p)) } }

def modEvents (f : Events → Events) (s : State) : State := { s with ev := f s.ev }

def modOut (f : Outputs → Outputs) (s : State) : State := { s with out := f s.out }

/-! ### Short readings -/

/-- The state of a path (R59). -/
def pstate (s : State) (p : Path) : PathState := (s.sup.get p).state

/-- The superframe the terminal is in. -/
def currentSuperframe (s : State) : SfNum := superframeOf s.clock.link

/-- Link time stands at the start of a superframe. -/
def atStart (s : State) : Bool := decide (s.clock.link % superframeUs = 0)

/-- A path is eligible for dispatch: UP or DEGRADED (R27). -/
def eligible (s : State) (p : Path) : Bool :=
  decide (pstate s p = .up) || decide (pstate s p = .degraded)

/-- Another path than `p` is UP or DEGRADED. -/
def otherEligible (s : State) (p : Path) : Bool := allPaths.any fun q => decide (q ≠ p) && eligible s q

/-- The terminal is PARKED (R130). -/
def isParked (s : State) : Bool := decide (s.storm.parking = .parked)

/-- The storm unit is PARKING (R128). -/
def isParking (s : State) : Bool :=
  match s.storm.parking with
  | .parking _ => true
  | _ => false

/-- A level of STORM or STRIKE (R121). -/
def stormy : Level → Bool
  | .storm => true
  | .strike => true
  | _ => false

/-- Levels as numbers in rising order (section 3.7). -/
def levelNum : Level → Nat
  | .calm => 0
  | .watch => 1
  | .storm => 2
  | .strike => 3

/-- The higher of two levels (R121). -/
def higher (x y : Level) : Level := if levelNum x < levelNum y then y else x

/-- The requester a local port is. -/
def requesterOfPort : Port → Requester
  | .lp1 => .lp1
  | .lp2 => .lp2

/-- The requester a command comes from. -/
def requesterOfSource : Source → Requester
  | .lp p => requesterOfPort p
  | .pt _ _ _ => .pt

/-- The stated rank: 0 from a local port, the rank in the TUNNEL-REQUEST from PT (R173). -/
def statedRank : Source → Nat
  | .lp _ => 0
  | .pt _ r _ => r.toNat

/-- The effective rank: the numerically larger of the requester's rank and the stated rank (R10, R173). -/
def effectiveRank (s : State) (src : Source) : Nat :=
  max (s.ports.ranks.get (requesterOfSource src)).val (statedRank src)

/-! ### The system outbox (R32) -/

/-- A block places a message at the tail; at a full outbox it is discarded and counted (R32). -/
def placeAwaited (m : Message) (why : Awaited) (s : State) : State :=
  if s.disp.outbox.length < outboxCap then
    modDisp (fun d => { d with outbox := d.outbox ++ [{ msg := m, awaited := why }] }) s
  else modDisp (fun d => { d with outboxFull := bump d.outboxFull }) s

/-- A block places a message that nothing waits for. -/
def place (m : Message) (s : State) : State := placeAwaited m .no s

/-! ### Outputs -/

/-- A record leaves the egress port (R107). -/
def emit (r : EgressRecord) (s : State) : State := modOut (fun o => { o with egress := o.egress ++ [r] }) s

/-- An item leaves on a path's line. -/
def sendItem (p : Path) (x : LineItem) (s : State) : State :=
  modOut (fun o => { o with lines := o.lines.upd p (fun l => l ++ [x]) }) s

end Sys2Proof.Machine
end

