-- ==== Sys2Proof/Machine/Answers.lean ====
section
/-! DEFINITION. What an owner block answers a command: status, clamped-fields note and body (section 9.3). The port makes a
response record of it. -/

namespace Sys2Proof.Machine

/-- The part of a response that the owner block gives. -/
structure Answer where
  status : Status
  note : List ClampField
  body : Body
deriving DecidableEq, Repr

/-- A status with no body. -/
def bare (st : Status) : Answer := { status := st, note := [], body := .none }

/-- A status with a body. -/
def answering (st : Status) (b : Body) : Answer := { status := st, note := [], body := b }

/-- A body behind DONE: what every reading command answers. -/
def reading (b : Body) : Answer := answering .done b

/-- DONE with the clamped-fields note (R11). -/
def doneNoting (ns : List ClampField) : Answer := { status := .done, note := ns, body := .none }

/-- NOT-HOLDER, naming the holder of the edit claim or none (R9, R16, R138). -/
def notHolder (s : State) : Answer := answering .notHolder (.holder s.plan.holder)

/-- The requester of a command holds the edit claim. -/
def holds (s : State) (src : Source) : Bool := decide (s.plan.holder = some (requesterOfSource src))

/-- A command of the claim holder restarts the lapse timer (R9, R15). -/
def renew (src : Source) (s : State) : State :=
  if holds s src then modPlan (fun p => { p with lapseTimer := some (p.lapseSecs * secUs) }) s else s

/-- The claim becomes free and its lapse timer stops. -/
def freeClaim (s : State) : State := modPlan (fun p => { p with holder := none, lapseTimer := none }) s

end Sys2Proof.Machine
end

