-- ==== Sys2Proof/Machine/Formats.lean ====
section
/-! DEFINITION. The byte layouts: system messages (section 2.3), the cell and superframe headers (section 3.7), the
response record (section 9.6). Multi-byte fields go most significant byte first. -/

namespace Sys2Proof.Machine

/-! ### Numbers as bytes -/

/-- A number in the given count of bytes, most significant first. -/
def bytesOf : Nat → Nat → List Byte
  | 0, _ => []
  | n + 1, x => BitVec.ofNat 8 (x / 256 ^ n) :: bytesOf n x

/-- The number that bytes spell, most significant first. -/
def natOf (bs : List Byte) : Nat := bs.foldl (fun acc b => acc * 256 + b.toNat) 0

/-- A 16-bit field as two bytes. -/
def bytes16 (x : BitVec 16) : List Byte := [x.extractLsb' 8 8, x.extractLsb' 0 8]

/-- A 32-bit field as four bytes. -/
def bytes32 (x : BitVec 32) : List Byte :=
  [x.extractLsb' 24 8, x.extractLsb' 16 8, x.extractLsb' 8 8, x.extractLsb' 0 8]

/-- The bytes followed by zeros up to a cell payload's 240 (section 2.3). -/
def padPayload (bs : List Byte) : List Byte := bs ++ List.replicate (240 - bs.length) 0

/-! ### Value numbers -/

def roleNum : Role → Byte
  | .mast => 0
  | .truck => 1

def roleOf (b : Byte) : Option Role :=
  match b.toNat with
  | 0 => some .mast
  | 1 => some .truck
  | _ => none

def portNum : Port → Byte
  | .lp1 => 0
  | .lp2 => 1

def portOf (b : Byte) : Option Port :=
  match b.toNat with
  | 0 => some .lp1
  | 1 => some .lp2
  | _ => none

def declineNum : DeclineReason → Byte
  | .busy => 0
  | .claimed => 1
  | .tooLate => 2
  | .invalid => 3
  | .collision => 4

def declineOf (b : Byte) : Option DeclineReason :=
  match b.toNat with
  | 0 => some .busy
  | 1 => some .claimed
  | 2 => some .tooLate
  | 3 => some .invalid
  | 4 => some .collision
  | _ => none

def reasonNum : Reason → Nat
  | .classMode => 1
  | .path => 2
  | .stagger => 3
  | .span => 4
  | .store => 5
  | .field => 6

/-- A validation reason byte: 0 is none; above 6 names no reason. -/
def verdictOf (b : Byte) : Option (Option Reason) :=
  match b.toNat with
  | 0 => some none
  | 1 => some (some .classMode)
  | 2 => some (some .path)
  | 3 => some (some .stagger)
  | 4 => some (some .span)
  | 5 => some (some .store)
  | 6 => some (some .field)
  | _ => none

def classNum : StreamClass → Nat
  | .system => 0
  | .programme => 1
  | .ret => 2
  | .audio => 3
  | .talk => 4
  | .control => 5

def directionNum : Direction → Nat
  | .up => 0
  | .down => 1
  | .both => 2

def modeNum : DivMode → Nat
  | .single => 0
  | .dual => 1
  | .dualStagger => 2
  | .triple => 3
  | .escalate => 4

def pathNum : Path → Nat
  | .a => 0
  | .b => 1
  | .w => 2

def preferredNum : Option Path → Nat
  | none => 0
  | some p => pathNum p + 1

def requesterNum : Requester → Nat
  | .lp1 => 0
  | .lp2 => 1
  | .pt => 2

/-! ### Descriptors in a PROPOSE (section 2.3) -/

/-- The five bytes of a descriptor as one 40-bit field. -/
def wireBits (d : WireDesc) : BitVec 40 :=
  BitVec.ofBool d.present ++ d.cls ++ d.direction ++ d.editRank ++ d.mode ++ d.preferred ++
    BitVec.ofBool d.granularity ++ d.priority ++ d.stagger ++ d.hold ++ d.budgetRaw ++ 0#1

def wireOfBits (x : BitVec 40) : WireDesc :=
  { present := x.getLsbD 39, cls := x.extractLsb' 36 3, direction := x.extractLsb' 34 2,
    editRank := x.extractLsb' 32 2, mode := x.extractLsb' 29 3, preferred := x.extractLsb' 27 2,
    granularity := x.getLsbD 26, priority := x.extractLsb' 24 2, stagger := x.extractLsb' 16 8,
    hold := x.extractLsb' 7 9, budgetRaw := x.extractLsb' 1 6 }

def wireBytes (d : WireDesc) : List Byte :=
  let x := wireBits d
  [x.extractLsb' 32 8, x.extractLsb' 24 8, x.extractLsb' 16 8, x.extractLsb' 8 8, x.extractLsb' 0 8]

/-- Descriptors from the bytes behind a PROPOSE's head, five bytes each. -/
def wiresOf : Nat → List Byte → Option (List WireDesc)
  | 0, _ => some []
  | n + 1, b0 :: b1 :: b2 :: b3 :: b4 :: rest =>
    (wiresOf n rest).map fun ds => wireOfBits (b0 ++ b1 ++ b2 ++ b3 ++ b4) :: ds
  | _ + 1, _ => none

/-- A descriptor as it is sent. -/
def wireOf (d : Descriptor) : WireDesc :=
  { present := d.present, cls := BitVec.ofNat 3 (classNum d.cls), direction := BitVec.ofNat 2 (directionNum d.direction),
    editRank := BitVec.ofNat 2 d.editRank.val, mode := BitVec.ofNat 3 (modeNum d.mode),
    preferred := BitVec.ofNat 2 (preferredNum d.preferred), granularity := decide (d.granularity = .coarse),
    priority := BitVec.ofNat 2 d.priority, stagger := BitVec.ofNat 8 d.stagger, hold := BitVec.ofNat 9 d.hold,
    budgetRaw := BitVec.ofNat 6 d.budgetRaw }

/-- A received descriptor, or none when a number names no value of its field or a field is out of range (R143): the
stagger above 160, the hold outside 4 to 320. -/
def descriptorOf (d : WireDesc) : Option Descriptor := do
  let cls ← classOfNat d.cls.toNat
  let direction ← directionOfNat d.direction.toNat
  let mode ← modeOfNat d.mode.toNat
  let preferred ← preferredOfNat d.preferred.toNat
  if 160 < d.stagger.toNat ∨ d.hold.toNat < 4 ∨ 320 < d.hold.toNat then none
  else
    some
      { present := d.present, cls := cls, direction := direction, editRank := ⟨d.editRank.toNat, d.editRank.isLt⟩,
        mode := mode, preferred := preferred, stagger := d.stagger.toNat, hold := d.hold.toNat,
        budgetRaw := d.budgetRaw.toNat, granularity := if d.granularity then .coarse else .fine,
        priority := d.priority.toNat }

/-! ### System messages -/

/-- The bytes of a message, before the zeros that fill the payload (section 2.3). -/
def messageBytes : Message → List Byte
  | .propose r e n ds => 1 :: roleNum r :: e :: bytes16 n ++ ds.flatMap wireBytes
  | .accept r e => [2, roleNum r, e]
  | .decline r e why v i =>
    [3, roleNum r, e, declineNum why, BitVec.ofNat 8 (match v with | none => 0 | some x => reasonNum x), i]
  | .cancel r e => [4, roleNum r, e]
  | .tunnelRequest r p k t inner => 5 :: roleNum r :: portNum p :: k :: t :: BitVec.ofNat 8 inner.length :: inner
  | .tunnelResponse r p t n last d =>
    6 :: roleNum r :: portNum p :: t :: n :: (if last then 1 else 0) :: BitVec.ofNat 8 d.length :: d
  | .notice r k => 7 :: roleNum r :: bytes32 k
  | .parking r n => 8 :: roleNum r :: bytes16 n

/-- The payload of a message's cell. -/
def messagePayload (m : Message) : List Byte := padPayload (messageBytes m)

/-- The message a payload carries, or none when its kind is undefined (R108). A role, port or reason byte that names no
value leaves the message undefined as well (assumption log 9). -/
def messageOf : List Byte → Option Message
  | kind :: role :: rest => do
    let r ← roleOf role
    match kind.toNat, rest with
    | 1, e :: n1 :: n0 :: ds => (wiresOf 31 ds).map fun w => .propose r e (n1 ++ n0) w
    | 2, e :: _ => some (.accept r e)
    | 3, e :: why :: v :: i :: _ => do
      let d ← declineOf why
      let x ← verdictOf v
      some (.decline r e d x i)
    | 4, e :: _ => some (.cancel r e)
    | 5, p :: k :: t :: len :: inner => do
      let q ← portOf p
      some (.tunnelRequest r q k t (inner.take len.toNat))
    | 6, p :: t :: n :: last :: len :: d => do
      let q ← portOf p
      some (.tunnelResponse r q t n (decide (last = 1)) (d.take len.toNat))
    | 7, k3 :: k2 :: k1 :: k0 :: _ => some (.notice r (k3 ++ k2 ++ k1 ++ k0))
    | 8, n1 :: n0 :: _ => some (.parking r (n1 ++ n0))
    | _, _ => none
  | _ => none

/-- The sender's role of a message. -/
def messageRole : Message → Role
  | .propose r _ _ _ => r
  | .accept r _ => r
  | .decline r _ _ _ _ => r
  | .cancel r _ => r
  | .tunnelRequest r _ _ _ _ => r
  | .tunnelResponse r _ _ _ _ _ => r
  | .notice r _ => r
  | .parking r _ => r

/-! ### Cell and superframe headers (section 3.7) -/

/-- The 16 bytes of a cell's header; a fill cell has every other byte zero. -/
def cellHeaderBytes (c : Cell) : List Byte :=
  if c.fill then 0x80 :: List.replicate 15 0
  else
    (0#1 ++ c.copyIndex ++ BitVec.ofNat 5 c.stream.val : BitVec 8) :: bytes16 c.seq ++
      bytes32 (BitVec.ofNat 32 c.origin) ++ List.replicate 9 0

/-- A cell from its 16 header bytes and its payload; bits shown as zero are not read. -/
def cellOfBytes (bs payload : List Byte) : Option Cell :=
  match bs with
  | [h0, s1, s0, o3, o2, o1, o0, _, _, _, _, _, _, _, _, _] =>
    some { fill := h0.getLsbD 7, copyIndex := h0.extractLsb' 5 2, stream := (h0.extractLsb' 0 5).toFin,
           seq := s1 ++ s0, origin := ((o3 ++ o2 ++ o1 ++ o0).extractLsb' 0 26).toNat, payload := payload }
  | _ => none

def levelBits : Level → BitVec 2
  | .calm => 0
  | .watch => 1
  | .storm => 2
  | .strike => 3

def levelOfBits (x : BitVec 2) : Level :=
  match x.toNat with
  | 0 => .calm
  | 1 => .watch
  | 2 => .storm
  | _ => .strike

/-- The first fourteen bytes of a superframe header. -/
def headerBytes (h : Header) : List Byte :=
  bytes16 h.number ++ bytes32 (h.sendTime.setWidth 32) ++
    [(BitVec.ofBool (decide (h.role = .truck)) ++ BitVec.ofBool h.parked ++ BitVec.ofBool h.mutingNext ++
        levelBits h.level ++ h.lengthCode : BitVec 8),
     (0#3 ++ BitVec.ofBool h.echoValid ++ h.epoch : BitVec 8)] ++
    bytes32 (h.echoOf.setWidth 32) ++ bytes16 h.turnaround

/-- A superframe header from its first fourteen bytes; bits shown as zero are not read. -/
def headerOfBytes : List Byte → Option Header
  | [n1, n0, t3, t2, t1, t0, f, e, o3, o2, o1, o0, a1, a0] =>
    some { number := n1 ++ n0, sendTime := (t3 ++ t2 ++ t1 ++ t0).extractLsb' 0 26,
           role := if f.getLsbD 7 then .truck else .mast, parked := f.getLsbD 6, mutingNext := f.getLsbD 5,
           level := levelOfBits (f.extractLsb' 3 2), lengthCode := f.extractLsb' 0 3, echoValid := e.getLsbD 4,
           epoch := e.extractLsb' 0 4, echoOf := (o3 ++ o2 ++ o1 ++ o0).extractLsb' 0 26, turnaround := a1 ++ a0 }
  | _ => none

/-! ### Response records (section 9.6) -/

/-- The status numbers of section 9.6. -/
def statusNum : Status → Byte
  | .done => 1
  | .accepted => 2
  | .pending => 3
  | .busy => 4
  | .claimed => 5
  | .notHolder => 6
  | .rank => 7
  | .badArgument => 8
  | .invalid => 9
  | .pathNotReady => 10
  | .lastPath => 11
  | .inStorm => 12
  | .sweepActive => 13
  | .sweepSuspended => 14
  | .notSuspended => 15
  | .parked => 16
  | .tunnelPending => 17
  | .tunnelTimeout => 18
  | .lastRankZero => 19
  | .unknownCommand => 20

/-! The manual lists the fields of each body and their order, and numbers the enumerated values of section 9.6's list.
The bytes that a field takes, the numbers of the other enumerations (their order in the manual) and the form of an
absent value (a byte 0; a byte 1 ahead of a value that is there) are the model's (assumption log 7). -/

def fld (n x : Nat) : List Field := [{ bytes := n, value := x }]

def fldBool (b : Bool) : List Field := fld 1 (if b then 1 else 0)

def fldOpt (n : Nat) : Option Nat → List Field
  | none => fld 1 0
  | some x => fld 1 1 ++ fld n x

/-- The last error of the time-source record (R82), a signed number: four bytes of two's complement behind the byte that says
whether there is one. No rule gives the form of a negative value (DESIGN CHOICE, assumption log 7). -/
def fldErr (e : Option Int) : List Field := fldOpt 4 (e.map fun x => (x % 4294967296).toNat)

def pathStateNum : PathState → Nat
  | .off => 0
  | .acquire => 1
  | .probation => 2
  | .up => 3
  | .degraded => 4
  | .shelter => 5
  | .sweep => 6

def powerNum : PowerMode → Nat
  | .active => 0
  | .idle => 1
  | .standby => 2
  | .warmup => 3

def timeStateNum : TimeState → Nat
  | .free => 0
  | .locked => 1
  | .holdover => 2

def causeNum : ResetCause → Nat
  | .powerOn => 0
  | .brownout => 1
  | .soft => 2
  | .softRemote => 3

def engineNum : EngineName → Nat
  | .idle => 0
  | .proposing => 1
  | .armed => 2

def sweepNum : SweepName → Nat
  | .idle => 0
  | .pending => 1
  | .running => 2
  | .suspended => 3

def parkNum : ParkName → Nat
  | .onAir => 0
  | .parking => 1
  | .parked => 2

def sweepOutcomeNum : SweepOutcome → Nat
  | .complete => 0
  | .aborted => 1
  | .pathLost => 2

/-- A clamped field's number in the note: the order in which the chapters bring the settings (DESIGN CHOICE, assumption log
7). -/
def clampNum : ClampField → Nat
  | .stagger => 0
  | .hold => 1
  | .budgetRaw => 2
  | .priority => 3
  | .lapse => 4
  | .probation => 5
  | .degrade => 6
  | .count => 7
  | .debounce => 8
  | .strikeTime => 9
  | .stormClear => 10
  | .watchClear => 11
  | .shelter => 12
  | .lead => 13

def fldCopy : CopyReading → List Field
  | .active e o i => fld 1 e.toNat ++ fldBool o ++ fldBool i
  | .staged h => fldOpt 1 (h.map requesterNum)
  | .pinned e f => fld 1 e.toNat ++ fldBool f

def fldStream (r : StreamReading) : List Field :=
  fldBool r.present ++ fld 1 (classNum r.cls) ++ fld 1 (directionNum r.direction) ++ fld 1 r.editRank.val ++
    fld 1 (modeNum r.mode) ++ fld 1 (preferredNum r.preferred) ++ fldOpt 1 r.stagger ++ fld 2 r.hold ++
    fld 1 r.budgetRaw ++ fld 1 (if r.granularity = .coarse then 1 else 0) ++ fld 1 r.priority ++ fld 1 r.budget ++
    fldOpt 2 r.span ++ fldCopy r.copy

def fldHeld : Option HeldReading → List Field
  | none => fld 1 0
  | some h =>
    fld 1 1 ++ fld 2 h.seq.toNat ++ fld 1 (pathNum h.path) ++ fld 1 h.copyIndex.toNat ++
      fld 1 (if h.quality = .clean then 0 else 1) ++ fld 4 h.arrival ++ fld 4 h.origin ++ fld 4 h.release

def fldWindow (r : WindowReading) : List Field :=
  fldBool r.anchored ++ fld 2 r.nr.toNat ++ fld 4 r.originMark ++ fld 1 r.strayRun ++ fld 2 r.span ++ fld 2 r.offset ++
    fld 2 r.heldCells ++ (match r.next with | none => fld 1 0 | some (t, q) => fld 1 1 ++ fld 4 t ++ fld 2 q.toNat) ++
    r.slots.flatMap fun x => fld 2 x.seq.toNat ++ fld 2 x.slot ++ fld 2 x.place ++ fldHeld x.held

def fldPath (r : PathReading) : List Field :=
  fld 1 (pathStateNum r.state) ++ fldBool r.enable ++ fld 1 r.acqRun ++ fld 2 r.probCount ++ fld 1 r.recCount ++
    fld 1 r.missRun ++ fldOpt 4 r.delay ++ fldOpt 2 r.lastRtt ++ fld 2 r.probLen ++ fld 1 r.degradeThr ++
    fldOpt 4 r.shelterTimer ++ fld 1 (cellsOf r.calmLen) ++ fld 1 (cellsOf r.stormLen) ++ fld 1 (cellsOf r.inUse) ++
    fld 1 (cellsOf r.lastGood) ++
    (match r.power with | none => [] | some (m, i, st, w) => fld 1 (powerNum m) ++ fldOpt 4 i ++ fldOpt 4 st ++ fldOpt 4 w) ++
    fld 1 (timeStateNum r.timeState) ++ fldOpt 1 (r.source.map pathNum) ++ fldErr r.lastError ++
    fldOpt 1 (r.holdShort.map fun i => i.val)

def fldResult : Option SweepResult → List Field
  | none => fld 1 0
  | some r =>
    fld 1 1 ++ fld 1 (pathNum r.path) ++ fld 1 (sweepOutcomeNum r.outcome) ++ fldBool r.byPark ++
      fld 1 r.counts.length ++ r.counts.flatMap (fld 2) ++ fld 1 r.margin

def fldSweep : Option SweepReading → List Field
  | none => fld 1 0
  | some r =>
    fld 1 1 ++ fld 1 (pathNum r.path) ++ fld 1 r.step ++ fld 1 r.taken ++ fld 1 r.grade ++ r.counts.flatMap (fld 2)

/-- An outcome's number: its row in the table of R136. -/
def outcomeNum : Outcome → Nat
  | .done => 0
  | .invalid _ _ => 1
  | .declined _ _ => 2
  | .noAnswer => 3
  | .collided => 4
  | .cancelledByPeer => 5
  | .aborted => 6

/-- The reason and the index of an outcome that has them (R136). -/
def fldReason : Outcome → List Field
  | .invalid r i => fld 1 (reasonNum r) ++ fld 1 i
  | .declined d v =>
    fld 1 (declineNum d).toNat ++
      (match v with | none => [] | some (r, i) => fld 1 (match r with | none => 0 | some x => reasonNum x) ++ fld 1 i)
  | _ => []

/-- The last result record in the order in which R136 lists what it holds: epoch, outcome, role, N, then the reason and the
index where it has them (DEDUCED, assumption log 7). -/
def fldOutcome (x : SwitchResult) : List Field :=
  fld 1 x.epoch.toNat ++ fld 1 (outcomeNum x.outcome) ++ fld 1 (roleNum x.proposer).toNat ++ fld 2 x.n.toNat ++
    fldReason x.outcome

def fldSwitch (r : SwitchReading) : List Field :=
  fld 1 (engineNum r.engine) ++
    (match r.pending with
      | none => []
      | some (p, left) => fld 1 p.epoch.toNat ++ fld 1 p.tag.toNat ++ fld 2 p.n.toNat ++ fld 1 (roleNum p.proposer).toNat ++ fld 2 left) ++
    (match r.run with | none => fld 1 0 | some (e, n) => fld 1 1 ++ fld 1 e.toNat ++ fld 2 n.toNat) ++
    (match r.last with
      | none => fld 1 0
      | some x => fld 1 1 ++ fldOutcome x) ++
    fld 1 r.epoch.toNat ++ fldOpt 1 (r.refPath.map pathNum) ++ fldOpt 1 (r.peerEpoch.map fun e => e.toNat) ++
    fld 1 r.split ++ fldBool r.holds

/-- The storm unit's part of STATUS in R135's order. R135 names the running timers without an order among them: debounce,
strike, storm-clear, watch-clear and peer-forget is the model's (DESIGN CHOICE, assumption log 7). -/
def fldStorm (r : StormReading) : List Field :=
  fld 1 (levelNum r.own) ++ fld 1 (levelNum r.peer) ++ fld 1 (levelNum r.effective) ++ fldBool r.fieldTaken ++
    fldOpt 4 r.debounce ++ fldOpt 4 r.strikeTimer ++ fldOpt 4 r.stormTimer ++ fldOpt 4 r.watchTimer ++
    fldOpt 4 r.forgetTimer ++ fld 1 (parkNum r.parking) ++ fldBool r.peerParked ++ fldOpt 2 r.peerParking ++
    fld 2 r.strikes ++ fld 1 (causeNum r.cause)

def fldEvents (r : EventReading) : List Field :=
  fld 4 r.set.toNat ++ fld 4 r.enables.toNat ++ fld 4 r.both.toNat ++ fld 4 r.holds.toNat ++
    (match r.attention with | none => [] | some b => fldBool b)

def fldStatus (r : StatusReading) : List Field :=
  fld 1 (roleNum r.role).toNat ++ fld 1 (causeNum r.cause) ++ fld 1 r.ranks.lp1.val ++ fld 1 r.ranks.lp2.val ++
    fld 1 r.ranks.pt.val ++ fldOpt 1 (r.holder.map requesterNum) ++ fld 1 (engineNum r.engine) ++ fld 1 r.epoch.toNat ++
    fld 1 (sweepNum r.sweep) ++ fld 1 (pathStateNum r.paths.a) ++ fld 1 (pathStateNum r.paths.b) ++
    fld 1 (pathStateNum r.paths.w) ++ fld 1 (powerNum r.power) ++ fld 1 (timeStateNum r.timeState) ++
    fldBool r.resetPending ++
    (match r.tunnel with | none => fld 1 0 | some (t, left) => fld 1 1 ++ fld 1 t.toNat ++ fld 4 left) ++
    fldStorm r.storm ++ fldEvents r.events

/-- The numbers of a body in the order the owner chapter lists them. -/
def bodyFields : Body → List Field
  | .none => []
  | .holder h => fldOpt 1 (h.map requesterNum)
  | .index i => fld 1 i
  | .verdict r i => fld 1 (reasonNum r) ++ fld 1 i
  | .proposal e n => fld 1 e.toNat ++ fld 2 n.toNat
  | .stream r => fldStream r
  | .window r => fldWindow r
  | .path r => fldPath r
  | .counters vs rs => vs.flatMap (fld 2) ++ rs
  | .events st en both holds n =>
    fld 4 st.toNat ++ fld 4 en.toNat ++ fld 4 both.toNat ++ fld 4 holds.toNat ++ fldOpt 4 (n.map fun k => k.toNat)
  | .cleared st stayed => fld 4 st.toNat ++ fld 4 stayed.toNat
  | .sweep e c l => fld 1 (sweepNum e) ++ fldSweep c ++ fldResult l
  | .switch r => fldSwitch r
  | .status r => fldStatus r
  | .raw bs => bs.map fun b => { bytes := 1, value := b.toNat }

/-- The body as bytes; the clamped-fields note, when there is one, opens it (section 9.6): the number of its fields in
one byte, then each field's number in one byte (DESIGN CHOICE, assumption log 7). -/
def bodyBytes (r : Record) : List Byte :=
  (match r.note with
    | [] => []
    | ns => BitVec.ofNat 8 ns.length :: ns.map fun n => BitVec.ofNat 8 (clampNum n)) ++
    (bodyFields r.body).flatMap fun f => bytesOf f.bytes f.value

/-- The flags byte of a record: tunnelled, repeat, clamped-fields note present. -/
def flagsByte (r : Record) : Byte :=
  BitVec.ofBool r.tunnelled ++ BitVec.ofBool r.repeated ++ BitVec.ofBool r.noted ++ 0#5

/-- A response record as clocked out on data out. -/
def recordBytes (r : Record) : List Byte :=
  r.code :: r.status :: flagsByte r :: r.number :: bytesOf 2 (bodyBytes r).length ++ bodyBytes r

/-- A record from the bytes its parts form (R178): its flags are those of the bytes with the tunnelled flag set. Head
bytes that did not come read as 0, and the body is what came, cut to the length field (DESIGN CHOICE, assumption log 42). -/
def recordOfBytes (bs : List Byte) : Record :=
  { code := bs.getD 0 0, status := bs.getD 1 0, tunnelled := true, repeated := (bs.getD 2 0).getLsbD 6,
    noted := (bs.getD 2 0).getLsbD 5, number := bs.getD 3 0, note := [],
    body := .raw ((bs.drop 6).take (natOf [bs.getD 4 0, bs.getD 5 0])) }

/-- The parts of a record: 224 bytes each from its first byte (R177), at most `n` of them. -/
def partsOf : Nat → List Byte → List (List Byte)
  | 0, _ => []
  | n + 1, bs => if bs.length ≤ 224 then [bs] else bs.take 224 :: partsOf n (bs.drop 224)

end Sys2Proof.Machine
end

