-- ==== Sys2Proof/Machine/Flags.lean ====
section
/-! DEFINITION. The flags a controller sees: event sets and conditions (chapter 10), notices to the peer (R187), and the
ATTENTION and READY lines (R186, R171). -/

namespace Sys2Proof.Machine

/-! ### Event kinds, in the order of the table of section 10.1 -/

def kindPathUp : KindSet := kindBit 0
def kindPathLost : KindSet := kindBit 1
def kindPathDegraded : KindSet := kindBit 2
def kindRadioPower : KindSet := kindBit 3
def kindTimeSource : KindSet := kindBit 4
def kindLevelChange : KindSet := kindBit 5
def kindStrike : KindSet := kindBit 7
def kindShelter : KindSet := kindBit 8
def kindLastPathExposed : KindSet := kindBit 9
def kindGap : KindSet := kindBit 10
def kindResync : KindSet := kindBit 11
def kindHoldShort : KindSet := kindBit 12
def kindQueueFull : KindSet := kindBit 13
def kindSwitchDone : KindSet := kindBit 14
def kindSwitchFailed : KindSet := kindBit 15
def kindPeerProposal : KindSet := kindBit 16
def kindEpochSplit : KindSet := kindBit 17
def kindClaimLapsed : KindSet := kindBit 18
def kindSweepEnd : KindSet := kindBit 19
def kindSweepSuspended : KindSet := kindBit 20
def kindPeerAttention : KindSet := kindBit 21
def kindPeerParked : KindSet := kindBit 22

/-- The intersection of a requester's event set and enable set. -/
def bothSets (e : Events) (r : Requester) : KindSet := e.sets.get r &&& e.enables.get r

/-- A change of the event unit. When it takes PT's intersection from empty to not empty, a NOTICE with the kinds of the
intersection is placed at that moment (R187). -/
def changeEvents (f : Events → Events) (s : State) : State :=
  if bothSets s.ev .pt = 0 ∧ bothSets (f s.ev) .pt ≠ 0 then
    place (.notice s.role ((bothSets (f s.ev) .pt).setWidth 32)) (modEvents f s)
  else modEvents f s

/-- A block raises a kind: it joins the event set of every requester (R183). -/
def raise (k : KindSet) (s : State) : State :=
  changeEvents (fun e => { e with sets := PerReq.of fun r => e.sets.get r ||| k }) s

/-- CLAIM-LAPSED joins the former holder's event set alone (R183). -/
def raiseFor (r : Requester) (k : KindSet) (s : State) : State :=
  changeEvents (fun e => { e with sets := e.sets.set r (e.sets.get r ||| k) }) s

/-- The condition of a condition kind holds now (R184). -/
def condHolds (s : State) (k : KindSet) : Bool := decide (s.ev.holds &&& k ≠ 0)

/-- A condition's owner reports whether it holds: at its beginning the kind joins every set; at its end the sets are
left as they are (R184). -/
def setCond (k : KindSet) (b : Bool) (s : State) : State :=
  if b then
    if condHolds s k then s
    else changeEvents (fun e => { e with sets := PerReq.of (fun r => e.sets.get r ||| k), holds := e.holds ||| k }) s
  else modEvents (fun e => { e with holds := e.holds &&& ~~~k }) s

/-- The ATTENTION line of a port is high while the port's intersection is not empty (R186). -/
def attention (s : State) (p : Port) : Bool := decide (bothSets s.ev (requesterOfPort p) ≠ 0)

/-- The READY line of a port is high while its slot holds an unfetched record (R171). -/
def ready (s : State) (p : Port) : Bool :=
  match (s.ports.lp.get p).slot with
  | some (_, false) => true
  | _ => false

end Sys2Proof.Machine
end

