-- ==== Sys2Proof/Machine/Paths.lean ====
section
/-! DEFINITION. What follows a change of a path's state: the sweep engine, the time source, the epoch reference path and
the path conditions; entering OFF and ACQUIRE; W's power modes (chapters 4 and 8). -/

namespace Sys2Proof.Machine

/-! ### The path state itself -/

/-- A path's state, with nothing that follows from it. -/
def setState (p : Path) (st : PathState) (s : State) : State := modSup p (fun v => { v with state := st }) s

/-- A transmit queue is emptied; each copy counts as purged (R26, R35, R40). -/
def purgeQueue (p : Path) (s : State) : State :=
  modDisp (fun d => { d with queue := d.queue.set p [], purged := d.purged.upd p (bumpBy (d.queue.get p).length) }) s

/-- The transmitting half stops where it stands: no further slot, and the block in progress goes without its check
bytes (R44, R47, R58). -/
def cutTransmit (p : Path) (s : State) : State :=
  modFramer p (fun f => { f with tx := { f.tx with sending := false, owed := none } }) s

/-- The receiving half has no superframe in judgement and no expected instant: it searches (R48, R60, R64). -/
def searchAgain (p : Path) (s : State) : State :=
  modFramer p (fun f => { f with rx := none, expected := none, parkedMisses := 0 }) s

/-! ### The sweep engine follows its path -/

/-- The margin of a list of failed-block counts: the clean steps before the first failing one (R161). -/
def marginOf (counts : List Nat) : Nat := (counts.takeWhile fun n => decide (n = 0)).length

/-- A sweep ends: the result record is written, the engine is IDLE, SWEEP-END is raised (R157). -/
def endSweep (outcome : SweepOutcome) (byPark : Bool) (c : CurrentSweep) (s : State) : State :=
  raise kindSweepEnd
    (modSweep (fun _ => { engine := .idle, last := some { path := c.path, outcome := outcome, byPark := byPark, counts := c.counts, margin := marginOf c.counts } }) s)

/-- A running sweep is suspended: its path returns to UP, the step in progress is discarded, SWEEP-SUSPENDED is raised
(R162). What follows from the path's state is `settle`'s, so SWEEP-SUSPENDED is raised ahead of TIME-SOURCE (DESIGN CHOICE,
assumption log 43). -/
def suspendRaw (c : CurrentSweep) (s : State) : State :=
  raise kindSweepSuspended
    (modSweep (fun w => { w with engine := .suspended { c with taken := 0, failed := 0 } }) (setState c.path .up s))

/-- What the sweep engine does after a change of a path's state or of the effective level (R159, R162, R166). -/
def sweepFollow (s : State) : State :=
  match s.sweep.engine with
  | .running c =>
    if pstate s c.path ≠ .sweep then endSweep .pathLost false c s
    else if stormy s.storm.effective || !otherEligible s c.path then suspendRaw c s
    else s
  | .pending c =>
    if pstate s c.path = .off ∨ pstate s c.path = .shelter then endSweep .pathLost false c s else s
  | _ => s

/-! ### The time source and the epoch reference path -/

/-- The first path in the order A, B, W that is UP (R78, R152). -/
def firstUp (s : State) : Option Path := allPaths.find? fun p => decide (pstate s p = .up)

/-- The record state after the source became `src` (R78). -/
def timeStateFor (src : Option Path) : TimeState → TimeState
  | .free => .free
  | .locked => if src.isSome then .locked else .holdover
  | .holdover => if src.isSome then .locked else .holdover

/-- The MAST re-selects its time source; a change raises TIME-SOURCE. In HOLDOVER link time runs freely, so a correction
still being spread is dropped (R78). A TRUCK has no source (R77). -/
def reselectSource (s : State) : State :=
  if s.role = .truck ∨ firstUp s = s.time.source then s
  else
    raise kindTimeSource
      (modClock (fun c => if firstUp s = none then { c with slew := none } else c)
        (modTime (fun t => { t with source := firstUp s, state := timeStateFor (firstUp s) t.state }) s))

/-- A change of the epoch reference path, or its loss, clears the split count (R152). -/
def reselectRef (s : State) : State :=
  if firstUp s = s.switch.refPath then s
  else modSwitch (fun w => { w with refPath := firstUp s, split := 0 }) s

/-! ### The path conditions -/

/-- PATH-DEGRADED holds while a path is DEGRADED (R63). -/
def evalDegraded (s : State) : State :=
  setCond kindPathDegraded (allPaths.any fun p => decide (pstate s p = .degraded)) s

/-- The largest delay estimate that is set, in 1/8 µs (R81). -/
def maxDelay (s : State) : Option Nat :=
  allPaths.foldl
    (fun acc p =>
      match acc, (s.sup.get p).delay with
      | some m, some d => some (max m d)
      | none, d => d
      | m, none => m) none

/-- The required hold of a stream in 1/8 µs: its stagger where the mode has one, the delay, 250 µs (R81). -/
def requiredHold (d : Descriptor) (delay : Nat) : Nat :=
  (if staggered d.mode then d.stagger * unitUs * 8 else 0) + delay + 250 * 8

/-- The lowest inbound stream whose hold is less than its required hold (R81). -/
def shortIndex (s : State) : Option StreamIx :=
  match maxDelay s with
  | none => none
  | some m =>
    allStreams.find? fun i =>
      inbound s.role (sget s.plan.active i) &&
        decide (holdUs (sget s.plan.active i) * 8 < requiredHold (sget s.plan.active i) m)

/-- HOLD-SHORT and its index are evaluated again (R81). -/
def evalHoldShort (s : State) : State :=
  setCond kindHoldShort (shortIndex s).isSome (modTime (fun t => { t with holdShort := shortIndex s }) s)

/-- Everything that follows a change of a path's state. The sweep engine follows first, and the time source is then selected
once: a source that leaves UP while a sweep returns another path to UP passes to it without HOLDOVER between (DESIGN
CHOICE, assumption log 38). -/
def settle (s : State) : State := evalHoldShort (evalDegraded (reselectRef (reselectSource (sweepFollow s))))

/-! ### OFF and ACQUIRE -/

/-- A cause of OFF holds for a path (R60). -/
def offCause (s : State) (p : Path) : Bool :=
  !(s.sup.get p).enable || isParked s ||
    (decide (p = .w) && (decide (s.radio.mode = .standby) || decide (s.radio.mode = .warmup)))

/-- The path enters OFF (R60). -/
def enterOff (p : Path) (s : State) : State :=
  purgeQueue p (searchAgain p
    (modFramer p (fun f => { f with tx := { sending := false, nextSlot := 0, closing := false, owed := none } })
      (modSup p (fun v => { v with state := .off, shelterTimer := none, delay := none, acqRun := 0, probCount := 0, probMet := false, recCount := 0, missRun := 0 }) s)))

/-- The path enters ACQUIRE with its estimate unset and an empty run, searching for headers (R61, R64). A closing header
still owed, by a SHELTER that ends before the next superframe start, is dropped: the full superframe of R43 begins there
(DESIGN CHOICE, assumption log 45). -/
def enterAcquire (p : Path) (s : State) : State :=
  searchAgain p (modFramer p (fun f => { f with tx := { f.tx with closing := false } })
    (modSup p (fun v => { v with state := .acquire, shelterTimer := none, delay := none, acqRun := 0 }) s))

/-- A path moves into or out of OFF as its causes stand (R60). -/
def followOff (p : Path) (s : State) : State :=
  if offCause s p then (if pstate s p = .off then s else enterOff p s)
  else if pstate s p = .off then enterAcquire p s
  else s

/-- All paths follow their causes of OFF, and what follows from that. -/
def refreshOff (s : State) : State := settle (followOff .w (followOff .b (followOff .a s)))

/-! ### W's power modes (section 4.4) -/

/-- W changes its power mode; every change raises RADIO-POWER. -/
def setMode (m : PowerMode) (s : State) : State :=
  if s.radio.mode = m then s else raise kindRadioPower (modRadio (fun r => { r with mode := m }) s)

/-- The idle timer starts where R70 lets it run, for the idle setting × 100 ms. -/
def startIdle (s : State) : State :=
  modRadio (fun r => { r with idleTimer := if s.storm.effective = .calm ∧ r.idleSet ≠ 0 then some (r.idleSet * 100 * msUs) else none }) s

/-- The standby timer starts where R71 lets it run, for the standby setting × 5 s. -/
def startStandby (s : State) : State :=
  modRadio (fun r => { r with standbyTimer := if s.storm.effective = .calm ∧ r.standbySet ≠ 0 then some (r.standbySet * 5 * secUs) else none }) s

/-- A W in IDLE returns to ACTIVE: the standby timer stops and the idle timer starts (R70, R72, R73). -/
def idleToActive (s : State) : State :=
  startIdle (setMode .active (modRadio (fun r => { r with standbyTimer := none }) s))

/-- A W in STANDBY is woken into WARMUP (R72). -/
def standbyToWarmup (s : State) : State :=
  modRadio (fun r => { r with warmTimer := some warmupUs }) (setMode .warmup s)

/-- A wake request from dispatch (R29, R33, R72): it acts on a W in STANDBY alone. -/
def wakeRequest (s : State) : State := if s.radio.mode = .standby then standbyToWarmup s else s

/-- Dispatch reports a copy placed on W (R31, R70). -/
def reportCopy (s : State) : State :=
  match s.radio.mode with
  | .active => startIdle s
  | .idle => idleToActive s
  | _ => s

/-- W's power control at a change of the effective level (R73). -/
def radioLevel (s : State) : State :=
  if s.storm.effective = .calm then
    (if s.radio.mode = .active then startIdle s else s)
  else
    match s.radio.mode with
    | .idle => idleToActive (modRadio (fun r => { r with idleTimer := none }) s)
    | .standby => standbyToWarmup (modRadio (fun r => { r with idleTimer := none, standbyTimer := none }) s)
    | _ => modRadio (fun r => { r with idleTimer := none, standbyTimer := none }) s

end Sys2Proof.Machine
end

