-- ==== Sys2Proof/Machine/Outbound.lean ====
section
/-! DEFINITION. Dispatch: ingress, policing, copy sets, the move of system messages, transmit queues and the slot arbiter
(chapter 2). -/

namespace Sys2Proof.Machine

/-- At the start of a superframe every budget count is 0 (R24). A cell taken at that very link time is the first of the
new superframe, whether or not the superframe's other work has been done. -/
def rollover (s : State) : State :=
  if atStart s ∧ s.clock.rolled = false then
    modClock (fun c => { c with rolled := true }) (modDisp (fun d => { d with budget := sall 0 }) s)
  else s

/-! ### Copies and paths -/

/-- The eligibility order: the UP paths, then the DEGRADED paths, each in the order A, B, W (R27). -/
def eligibilityOrder (s : State) : List Path :=
  (allPaths.filter fun p => decide (pstate s p = .up)) ++ allPaths.filter fun p => decide (pstate s p = .degraded)

/-- The mode that applies to a cell: ESCALATE takes one from the effective level (R30). -/
def appliedMode (s : State) (d : Descriptor) : DivMode :=
  match d.mode with
  | .escalate =>
    match s.storm.effective with
    | .calm => .single
    | .watch => .dual
    | _ => .dualStagger
  | m => m

/-- How many copies a mode wants (R28). -/
def wantedCopies : DivMode → Nat
  | .single => 1
  | .dual => 2
  | .dualStagger => 2
  | .triple => 3
  | .escalate => 2

/-- Copy 0's path: the preferred path if it is eligible, otherwise the first of the eligibility order (R28). -/
def firstCopyPath (preferred : Option Path) (order : List Path) : Option Path :=
  match preferred with
  | some p => if p ∈ order then some p else order.head?
  | none => order.head?

/-- The copy set: the path and the due time of copy 0, 1, 2 (R28, R29). -/
def copySet (mode : DivMode) (d : Descriptor) (origin : Nat) (order : List Path) : List (Path × Nat) :=
  match mode with
  | .triple => (allPaths.filter fun p => decide (p ∈ order)).map fun p => (p, origin)
  | _ =>
    match firstCopyPath d.preferred order with
    | none => []
    | some p =>
      match mode, order.find? (fun q => decide (q ≠ p)) with
      | .dual, some q => [(p, origin), (q, origin)]
      | .dualStagger, some q => [(p, origin), (q, tadd origin (d.stagger * unitUs))]
      | _, _ => [(p, origin)]

/-- A copy joins its path's queue; at a full queue it is dropped, counted, and QUEUE-FULL is raised (R34). A copy of
another stream than 0 that joins W's queue is reported to W's supervisor (R31), at the very moment of its placement, so no
standby expiry falls between the two (DESIGN CHOICE, assumption log 50). -/
def enqueue (p : Path) (c : Copy) (s : State) : State :=
  if (s.disp.queue.get p).length < queueCap then
    let t := modDisp (fun d => { d with queue := d.queue.upd p (fun q => q ++ [c]) }) s
    if p = .w ∧ c.cell.stream ≠ 0 then reportCopy t else t
  else raise kindQueueFull (modDisp (fun d => { d with queueFull := d.queueFull.upd p bump }) s)

/-- The copy record of one copy of a cell (R25, R28, R34). -/
def copyRecord (i : StreamIx) (d : Descriptor) (seq : Seq) (origin : Nat) (payload : List Byte) (k : Nat) (due : Nat) :
    Copy :=
  { cell := { fill := false, copyIndex := BitVec.ofNat 2 k, stream := i, seq := seq, origin := origin, payload := payload },
    due := due, priority := d.priority, hold := holdUs d }

/-- The copies are placed, copy 0 first (R28). -/
def placeCopies (i : StreamIx) (d : Descriptor) (seq : Seq) (origin : Nat) (payload : List Byte) :
    Nat → List (Path × Nat) → State → State
  | _, [], s => s
  | k, (p, due) :: rest, s =>
    placeCopies i d seq origin payload (k + 1) rest (enqueue p (copyRecord i d seq origin payload k due) s)

/-- A cell is accepted: stamped with the stream's next sequence and link time, counted against the budget, and copied
(R25, R24, R28, R29). -/
def acceptCell (i : StreamIx) (payload : List Byte) (mode : DivMode) (s : State) : State :=
  let d := sget s.plan.active i
  let set := copySet mode d s.clock.link (eligibilityOrder s)
  placeCopies i d (sget s.disp.nextSeq i) s.clock.link payload 0 set
    (modDisp (fun x =>
      { x with
        nextSeq := supd x.nextSeq i (fun n => n + 1)
        budget := supd x.budget i (fun n => n + 1)
        diversityReduced := if set.length < wantedCopies mode then supd x.diversityReduced i bump else x.diversityReduced }) s)

/-- A cell from ingress, after the budget counts of a new superframe were cleared (R23, R24, R29). -/
def takeIngress (i : StreamIx) (payload : List Byte) (s : State) : State :=
  let d := sget s.plan.active i
  if isParked s || decide (i = 0) || !d.present || !runsOut s.role d.direction then
    modDisp (fun x => { x with ingressRefused := supd x.ingressRefused i bump }) s
  else if budgetOf d ≤ sget s.disp.budget i then
    modDisp (fun x => { x with overBudget := supd x.overBudget i bump }) s
  else if eligibilityOrder s = [] then
    wakeRequest (modDisp (fun x => { x with noPath := supd x.noPath i bump }) s)
  else acceptCell i payload (appliedMode s d) s

/-! ### The move of system messages (R33) -/

/-- What waits for a message learns the stream 0 sequence it took (R129, R181). -/
def markMoved (why : Awaited) (q : Seq) (s : State) : State :=
  match why with
  | .no => s
  | .park =>
    modStorm (fun m => { m with parking := match m.parking with | .parking w => .parking { w with moved := some q } | x => x }) s
  | .reset => modPorts (fun x => { x with resetPending := x.resetPending.map fun w => { w with moved := some q } }) s

/-- The head message of the outbox becomes a cell of stream 0 while budget and an eligible path allow; with no eligible
path a W in STANDBY is sent a wake request, unless the terminal is PARKED (R33). -/
def moveHead (s : State) : State :=
  match s.disp.outbox with
  | [] => s
  | m :: rest =>
    if eligibilityOrder s = [] then (if isParked s then s else wakeRequest s)
    else if budgetOf (sget s.plan.active 0) ≤ sget s.disp.budget 0 then s
    else
      acceptCell 0 (messagePayload m.msg) .triple
        (markMoved m.awaited (sget s.disp.nextSeq 0) (modDisp (fun d => { d with outbox := rest }) s))

/-! ### The slot arbiter -/

/-- The slot's start is at or after the copy's due time (R36). -/
def isDue (start : Nat) (c : Copy) : Bool := atOrAfter start c.due

/-- Copy `x` goes ahead of copy `y`, which was accepted before it: higher priority, then earlier due time, then lower
stream index (R36). -/
def goesAhead (start : Nat) (x y : Copy) : Bool :=
  decide (y.priority < x.priority) ||
    (decide (x.priority = y.priority) &&
      (decide (tsub start y.due < tsub start x.due) ||
        (decide (tsub start x.due = tsub start y.due) && decide (x.cell.stream < y.cell.stream))))

/-- The copy the arbiter selects among the due copies of a queue (R36). -/
def selectCopy (start : Nat) (q : List Copy) : Option Copy :=
  (q.filter (isDue start)).foldl
    (fun best c => match best with | none => some c | some b => if goesAhead start c b then some c else some b) none

/-- The copy's age has reached its hold (R37). -/
def hasExpired (start : Nat) (c : Copy) : Bool := decide (c.hold ≤ tsub start c.cell.origin)

/-- The arbiter selects until it finds a copy that has not expired (R36, R37): the queue that is left, how many expired,
and the copy to send. The first argument bounds the selections. -/
def arbitrate (start : Nat) : Nat → List Copy → Nat → List Copy × Nat × Option Copy
  | 0, q, n => (q, n, none)
  | k + 1, q, n =>
    match selectCopy start q with
    | none => (q, n, none)
    | some c => if hasExpired start c then arbitrate start k (q.erase c) (n + 1) else (q.erase c, n, some c)

/-- A fill cell (R38). Its payload is not read; the model gives it none (assumption log 10). -/
def fillCell : Cell := { fill := true, copyIndex := 0, stream := 0, seq := 0, origin := 0, payload := [] }

/-- The path's transmitter sends slots in this state (R35, R43). -/
def sendsSlots : PathState → Bool
  | .off => false
  | .shelter => false
  | _ => true

/-- The start of the next slot has come on a path that is sending its superframe (R36). -/
def slotDue (s : State) (p : Path) : Bool :=
  let f := s.framer.get p
  sendsSlots (pstate s p) && f.tx.sending && decide (f.tx.nextSlot < slotsOf p) &&
    decide (s.clock.link % superframeUs = f.tx.nextSlot * pitchOf p)

/-- Slot k ends a block: the last of a full block or of the superframe (R50). -/
def endsBlock (p : Path) (len : BlockLen) (k : Nat) : Bool :=
  decide ((k + 1) % cellsOf len = 0) || decide (k + 1 = slotsOf p)

/-- The slot is sent and the transmitter moves on; where the slot is its block's last, the block's check bytes are owed
until the slot has ended (R43, R51). -/
def sendSlot (p : Path) (cell : Cell) (s : State) : State :=
  let f := s.framer.get p
  let k := f.tx.nextSlot
  sendItem p (.slot k cell)
    (modFramer p (fun g =>
      { g with
        tx :=
          { g.tx with
            nextSlot := k + 1
            sending := decide (k + 1 < slotsOf p)
            owed := if endsBlock p f.inUse k then some (k / cellsOf f.inUse) else none } }) s)

/-- The block whose last slot ends at this instant of link time, with its check bytes still to come (R43). -/
def checkDue (s : State) (p : Path) : Option Nat :=
  let x := (s.framer.get p).tx
  if s.clock.link % superframeUs = x.nextSlot * pitchOf p % superframeUs then x.owed else none

/-- The check bytes of a block follow its last cell: they leave at the instant at which that cell's slot ends (R43). A block
that is cut off before that instant goes without them (R44, R47, R58). -/
def sendCheck (p : Path) (s : State) : State :=
  match checkDue s p with
  | some j => sendItem p (.check j) (modFramer p (fun f => { f with tx := { f.tx with owed := none } }) s)
  | none => s

/-- Every path's check bytes that are due. -/
def sendChecks (s : State) : State := sendCheck .w (sendCheck .b (sendCheck .a s))

/-- One slot of a path (R36 to R38). -/
def serveSlot (p : Path) (s : State) : State :=
  let q := s.disp.queue.get p
  let r := arbitrate s.clock.link q.length q 0
  let t := modDisp (fun d => { d with queue := d.queue.set p r.1, expired := d.expired.upd p (bumpBy r.2.1) }) s
  match r.2.2 with
  | some c => sendSlot p c.cell t
  | none => sendSlot p fillCell t

/-- At a superframe start every copy whose age has reached its hold is removed and counted (R37). -/
def expireQueue (p : Path) (s : State) : State :=
  let q := s.disp.queue.get p
  let kept := q.filter fun c => !hasExpired s.clock.link c
  modDisp (fun d => { d with queue := d.queue.set p kept, expired := d.expired.upd p (bumpBy (q.length - kept.length)) }) s

/-! ### The switch (R39) -/

/-- The stream keeps its numbering at a switch: present, direction and class are unchanged (R39). -/
def keepsNumber (old new : Descriptor) : Bool :=
  decide (old.present = new.present) && decide (old.direction = new.direction) && decide (old.cls = new.cls)

/-- Dispatch at a switch: sequences kept or restarted, budget counts 0 (R39, R24). -/
def dispatchSwitch (old new : Plan) (s : State) : State :=
  modClock (fun c => { c with rolled := true })
    (modDisp (fun d =>
      { d with
        nextSeq := sof fun i => if keepsNumber (sget old i) (sget new i) then sget d.nextSeq i else 0
        budget := sall 0 }) s)

end Sys2Proof.Machine
end

