-- ==== Sys2Proof/Machine/Framing.lean ====
section
/-! DEFINITION. The transmitting half: block length, headers, the start of a superframe on a path; and how the receiving
half judges headers and blocks (chapter 3). -/

namespace Sys2Proof.Machine

/-! ### Transmitting -/

/-- The length for a superframe: the storm length at an effective STORM or STRIKE, the calm length otherwise (R54). -/
def chosenLength (s : State) (p : Path) : BlockLen :=
  if stormy s.storm.effective then (s.framer.get p).stormLen else (s.framer.get p).calmLen

/-- The turnaround and echo-of of a header built now, when the echo record is fresh enough (R46). -/
def echoOf (s : State) (p : Path) : Option (Nat × Nat) :=
  match (s.framer.get p).echo with
  | none => none
  | some e => if s.clock.ref - e.arrivalRef < 65535 then some (e.sendTime, s.clock.ref - e.arrivalRef) else none

/-- The header of the superframe that starts now (R45, R46). -/
def buildHeader (p : Path) (parked muting : Bool) (s : State) : Header :=
  { number := currentSuperframe s
    sendTime := BitVec.ofNat 26 s.clock.link
    role := s.role
    parked := parked
    mutingNext := muting
    level := s.storm.own
    lengthCode := codeOfLength (s.framer.get p).inUse
    echoValid := (echoOf s p).isSome
    epoch := s.plan.epoch
    echoOf := match echoOf s p with | some e => BitVec.ofNat 26 e.1 | none => 0
    turnaround := match echoOf s p with | some e => BitVec.ofNat 16 e.2 | none => 65535 }

/-- A header leaves with its check (R45). -/
def sendHeader (p : Path) (h : Header) (s : State) : State := sendItem p (.header h (Config.headerCheck (headerBytes h))) s

/-- A path's transmitting half at a superframe start: the length is chosen; then a full superframe begins, or a closing
header or a beacon goes out alone, or nothing (R43, R47, R54). -/
def startSuperframe (p : Path) (s : State) : State :=
  let t := modFramer p (fun f => { f with inUse := chosenLength s p }) s
  if sendsSlots (pstate s p) then
    sendHeader p (buildHeader p false false t)
      (modFramer p (fun f => { f with tx := { sending := true, nextSlot := 0, closing := false, owed := none } }) t)
  else if pstate s p = .shelter ∧ (s.framer.get p).tx.closing then
    sendHeader p (buildHeader p false true t)
      (modFramer p (fun f => { f with tx := { sending := false, nextSlot := 0, closing := false, owed := none } }) t)
  else if isParked s ∧ p = .a ∧ (s.sup.get p).enable then
    sendHeader p (buildHeader p true false t)
      (modFramer p (fun f => { f with tx := { sending := false, nextSlot := 0, closing := false, owed := none } }) t)
  else t

/-! ### Receiving headers -/

/-- The receiving half takes headers: in the states of R48, and on path A of a PARKED terminal with its enable on. -/
def takesHeaders (s : State) (p : Path) : Bool :=
  match pstate s p with
  | .off => decide (p = .a) && isParked s && (s.sup.get p).enable
  | .shelter => false
  | _ => true

/-- A header arrives where the receiving half looks: anywhere while it searches, within 4 µs of the expected instant
otherwise (R48). -/
def inWindow (f : Framer) (arrivalRef : Nat) : Bool :=
  match f.expected with
  | none => true
  | some e => decide (e ≤ arrivalRef + 4) && decide (arrivalRef ≤ e + 4)

/-- The check passes and every field is defined (the conditions of GOOD and FAILED in R48 but the role). -/
def headerSound (a : HeaderArrival) : Bool :=
  let h := a.header
  a.checkPasses && decide (h.sendTime.toNat < linkModulus) && decide (h.sendTime.toNat % superframeUs = 0) &&
    decide (h.number.toNat = h.sendTime.toNat / superframeUs) && decide (h.lengthCode.toNat < 5) &&
    (!h.echoValid || decide (h.echoOf.toNat < linkModulus))

/-- The header's role is this terminal's own; the field is read when the check passes (R48, assumption log 11). -/
def ownRole (s : State) (a : HeaderArrival) : Bool := a.checkPasses && decide (a.header.role = s.role)

/-- The header is GOOD (R48). -/
def headerGood (s : State) (a : HeaderArrival) : Bool := headerSound a && decide (a.header.role ≠ s.role)

/-- The length a header's code names; a GOOD header's code is defined. -/
def headerLength (a : HeaderArrival) : BlockLen := (lengthOfCode a.header.lengthCode).getD .l1

/-- A superframe behind this header carries no blocks (R47, R53). -/
def silentHeader (a : HeaderArrival) : Bool := a.header.parked || a.header.mutingNext

/-! ### Judging blocks -/

/-- The blocks of a superframe at a length: the full ones and the partial one (R50). -/
def blocksOf (p : Path) (len : BlockLen) : Nat := (slotsOf p + cellsOf len - 1) / cellsOf len

/-- A block is FAILED: its check bytes or signal are missing, it was decoded at another length than it was sent with, or
five bytes or more were corrupted (R51). -/
def blockFails (r : RxSuperframe) (b : BlockArrival) : Bool :=
  !b.complete || decide (b.sentLength ≠ r.length) || decide (5 ≤ b.corrupted)

/-- The quality of a block that passes (R51). -/
def blockQuality (b : BlockArrival) : Quality := if b.corrupted = 0 then .clean else .corrected

/-- A block judged outside SWEEP moves one of the framer's counters (R53, R57). -/
def countBlock (p : Path) (fails : Bool) (q : Quality) (s : State) : State :=
  modFramer p (fun f =>
    if fails then { f with blocksFailed := bump f.blocksFailed }
    else
      match q with
      | .clean => { f with blocksClean := bump f.blocksClean }
      | .corrected => { f with blocksCorrected := bump f.blocksCorrected }) s

/-- The cells of a block that carry a copy (R52). -/
def liveCells (b : BlockArrival) : List CellArrival := b.cells.filter fun c => !c.cell.fill

end Sys2Proof.Machine
end

