-- ==== Sys2Proof/Machine/Levels.lean ====
section
/-! DEFINITION. The storm unit's own, peer and effective level (sections 6.1 to 6.3) and shelter (section 6.4). -/

namespace Sys2Proof.Machine

/-! ### The effective level -/

/-- The effective level is evaluated again (R121): a change raises LEVEL-CHANGE, moves IN-STORM, and is taken by W's
power control (R73) and the sweep engine (R162). The kinds are raised one by one, LEVEL-CHANGE ahead of IN-STORM, then
RADIO-POWER, then what `settle` raises, SWEEP-SUSPENDED among it (DESIGN CHOICE, assumption log 43). -/
def reEffective (s : State) : State :=
  if higher s.storm.own s.storm.peer = s.storm.effective then s
  else
    settle (radioLevel
      (setCond kindInStorm (stormy (higher s.storm.own s.storm.peer))
        (raise kindLevelChange (modStorm (fun m => { m with effective := higher m.own m.peer }) s))))

/-! ### Shelter -/

/-- A path is in UP, DEGRADED or PROBATION (R125). -/
def inService (s : State) (p : Path) : Bool := eligible s p || decide (pstate s p = .probation)

/-- Another path than `p` is in UP, DEGRADED or PROBATION. -/
def otherInService (s : State) (p : Path) : Bool := allPaths.any fun q => decide (q ≠ p) && inService s q

/-- The path enters SHELTER (R66, R47, R35). -/
def enterShelter (p : Path) (s : State) : State :=
  settle (purgeQueue p (searchAgain p
    (modFramer p (fun f => { f with tx := { sending := false, nextSlot := 0, closing := true, owed := none } })
      (modSup p (fun v => { v with state := .shelter, shelterTimer := some (v.shelterMs * msUs), delay := none, acqRun := 0, probCount := 0, probMet := false, recCount := 0, missRun := 0 }) s))))

/-- A shelter order is issued for a path, judged by the last-path test, and applied (R124, R125, R66). SHELTER is raised
behind what follows from the path's change, TIME-SOURCE, PATH-DEGRADED and HOLD-SHORT among it (DESIGN CHOICE, assumption
log 43). -/
def shelterOrder (p : Path) (s : State) : State :=
  if (s.sup.get p).exposed = false ∨ (s.sup.get p).shelterMs = 0 ∨ pstate s p = .shelter then s
  else if inService s p && !otherInService s p then
    raise kindLastPathExposed (modStorm (fun m => { m with lastPathKept := m.lastPathKept.upd p bump }) s)
  else if pstate s p = .off then s
  else
    raise kindShelter (modStorm (fun m => { m with shelters := m.shelters.upd p bump }) (enterShelter p s))

/-- Shelter orders are issued for paths one after another. An order that is applied to the last path beside the swept one
suspends the sweep at once, ahead of the swept path's own order of that moment (DESIGN CHOICE, assumption log 54). -/
def issueOrders (ps : List Path) (s : State) : State := ps.foldl (fun t p => shelterOrder p t) s

/-- The order in which the storm unit considers the paths (R124). -/
def orderPaths : List Path := [.w, .b, .a]

/-- The storm unit considers every path (R124). -/
def shelterOrders (s : State) : State := issueOrders orderPaths s

/-- An open order is drawn. -/
def drawChoice (s : State) : State := { s with choices := s.choices + 1 }

/-- The level change and the shelter orders of an entry into STRIKE (R115, R121, R124). While a sweep runs, a free value says
how many orders come ahead of the level change, for either may be taken first (R126, R167); with none running the level
change comes first (DESIGN CHOICE, assumption log 8). -/
def enterStrike (s : State) : State :=
  match s.sweep.engine with
  | .running _ =>
    let n := Config.ordersAhead s.choices
    issueOrders (orderPaths.drop n) (reEffective (issueOrders (orderPaths.take n) (drawChoice s)))
  | _ => shelterOrders (reEffective s)

/-! ### The own level machine (R115) -/

/-- The own level's timers as a level is entered: leaving a level stops its timer, and the entered level's starts from
its full duration (R115 to R118). -/
def enterTimers (l : Level) (m : Storm) : Storm :=
  { m with
    strikeTimer := if l = .strike then some (m.strikeMs * msUs) else none
    stormTimer := if l = .storm then some (m.stormClearMin * minUs) else none
    watchTimer := if l = .watch ∧ m.fieldTaken = false then some (m.watchClearMin * minUs) else none }

/-- The own level changes: it is written to the hold-up domain, its timers start and stop, the effective level is
evaluated again, and an entry into STRIKE issues shelter orders (R115, R124). -/
def moveOwn (l : Level) (s : State) : State :=
  let t := modHoldUp (fun h => { h with levelClass := l }) (modStorm (fun m => enterTimers l { m with own := l }) s)
  if l = .strike then enterStrike t else reEffective t

/-- The three indications (R114). -/
inductive Strike where
  | flash | surge | coincident
deriving DecidableEq, Repr

/-- The strike timer starts again from the full strike time (R116). -/
def restartStrike (s : State) : State := modStorm (fun m => { m with strikeTimer := some (m.strikeMs * msUs) }) s

/-- The own level machine takes an indication (the rows FLASH, SURGE and COINCIDENT of R115). -/
def takeIndication (k : Strike) (s : State) : State :=
  match k, s.storm.own with
  | .flash, .calm => moveOwn .watch s
  | .flash, .watch => moveOwn .storm s
  | .flash, .storm => modStorm (fun m => { m with stormTimer := some (m.stormClearMin * minUs) }) s
  | .flash, .strike => s
  | .surge, .strike => shelterOrders (restartStrike s)
  | .surge, _ => moveOwn .strike s
  | .coincident, .strike => restartStrike s
  | .coincident, _ => moveOwn .strike s

/-- A strike indication: the strike counter, STRIKE, then the own level machine (R114). -/
def strikeIndication (k : Strike) (s : State) : State :=
  takeIndication k (raise kindStrike (modHoldUp (fun h => { h with strikes := bump h.strikes }) s))

/-! ### FIELD -/

/-- FIELD's condition: the line stands at the level its polarity names (section 6.1). -/
def fieldAsserted (s : State) : Bool :=
  match s.storm.fieldPolarity with
  | .high => s.fieldLine
  | .low => !s.fieldLine

/-- FIELD taken asserted, at the own level machine (R115). -/
def fieldUp (s : State) : State :=
  match s.storm.own with
  | .calm => moveOwn .watch s
  | .watch => modStorm (fun m => { m with watchTimer := none }) s
  | _ => s

/-- FIELD taken deasserted, at the own level machine (R115). -/
def fieldDown (s : State) : State :=
  match s.storm.own with
  | .watch => modStorm (fun m => { m with watchTimer := some (m.watchClearMin * minUs) }) s
  | _ => s

/-- The debounce has expired: a condition that differs from the taken state is taken (R112). -/
def takeField (s : State) : State :=
  let t := modStorm (fun m => { m with debounce := none }) s
  if fieldAsserted s = s.storm.fieldTaken then t
  else if fieldAsserted s then
    fieldUp (modStorm (fun m => { m with fieldTaken := true, fieldAssertions := bump m.fieldAssertions }) t)
  else fieldDown (modStorm (fun m => { m with fieldTaken := false }) t)

/-- FIELD's condition has changed: the debounce starts from the full time; with a debounce time of 0 the change is taken
at once (R112). -/
def fieldChanged (s : State) : State :=
  if s.storm.debounceMs = 0 then takeField s
  else modStorm (fun m => { m with debounce := some (m.debounceMs * msUs) }) s

/-! ### The peer -/

/-- The peer parked flag changes: PEER-PARKED begins or ends with it, and the peer parking record becomes none when it
ends (R120, R131). -/
def setPeerParked (b : Bool) (s : State) : State :=
  setCond kindPeerParked b
    (modStorm (fun m => { m with peerParked := b, peerParking := if m.peerParked ∧ b = false then none else m.peerParking }) s)

/-- The storm unit takes a GOOD header (R119, R120). PEER-PARKED is raised ahead of the LEVEL-CHANGE of the same header
(DESIGN CHOICE, assumption log 43). -/
def hearPeer (l : Level) (parked : Bool) (s : State) : State :=
  reEffective (setPeerParked parked (modStorm (fun m => { m with peer := l, forgetTimer := some forgetUs }) s))

/-- The storm unit forgets the peer (R119). -/
def forgetPeer (s : State) : State :=
  reEffective (setPeerParked false
    (modStorm (fun m => { m with peer := .calm, forgetTimer := none, peerParking := none, peerForgets := bump m.peerForgets }) s))

end Sys2Proof.Machine
end

