-- ==== Sys2Proof/Machine/Store.lean ====
section
/-! DEFINITION. The cell store as an addressed buffer: places strictly rising, each listed place HELD (section 5.1). -/

namespace Sys2Proof.Machine

/-- The cell HELD at a place, or none when the place is EMPTY. -/
def CellStore.read : CellStore → Nat → Option Held
  | [], _ => none
  | (p, h) :: rest, q => if p = q then some h else CellStore.read rest q

/-- The store with a cell HELD at a place. -/
def CellStore.write : CellStore → Nat → Held → CellStore
  | [], q, h => [(q, h)]
  | (p, g) :: rest, q, h =>
    if q < p then (q, h) :: (p, g) :: rest
    else if q = p then (q, h) :: rest
    else (p, g) :: CellStore.write rest q h

/-- The store with a place made EMPTY. -/
def CellStore.erase (st : CellStore) (q : Nat) : CellStore := st.filter fun e => decide (e.1 ≠ q)

/-- The HELD places of a range of the store. -/
def CellStore.range (st : CellStore) (offset span : Nat) : CellStore :=
  st.filter fun e => decide (offset ≤ e.1) && decide (e.1 < offset + span)

/-- The store with every place of a range made EMPTY. -/
def CellStore.clear (st : CellStore) (offset span : Nat) : CellStore :=
  st.filter fun e => !(decide (offset ≤ e.1) && decide (e.1 < offset + span))

/-- The canonical form: places strictly rising, all of them places of the store. -/
abbrev CellStore.wf (st : CellStore) : Prop :=
  (st.map Prod.fst).Pairwise (· < ·) ∧ ∀ e ∈ st, e.1 < storePlaces

end Sys2Proof.Machine
end

