-- ==== Sys2Proof/Machine/Rejoin.lean ====
section
/-! DEFINITION. The rejoin engine: taking a copy, holding, release, gaps, resync, flushes and the re-layout at a switch
(chapter 5). The delivery of stream 0's messages is in Delivery.lean. -/

namespace Sys2Proof.Machine

/-! ### The window and its slots -/

/-- The window of a stream, or none outside the inbound set. -/
def windowOf (s : State) (i : StreamIx) : Option Window := sget s.rejoin.windows i

/-- The store place of a sequence: offset + (s mod span) (R85). -/
def placeOf (w : Window) (q : Seq) : Nat := w.offset + q.toNat % w.span

/-- The HELD cells of a window. -/
def heldIn (s : State) (w : Window) : CellStore := s.rejoin.store.range w.offset w.span

/-- The release time of an origin time under a stream's active hold (R88). -/
def releaseTime (s : State) (i : StreamIx) (origin : Nat) : Nat := tadd origin (holdUs (sget s.plan.active i))

/-- Of two held cells, the one at the smaller distance from NR. -/
def nearer (nr : Seq) (x y : Held) : Held := if seqDist y.cell.seq nr < seqDist x.cell.seq nr then y else x

/-- The lowest-sequence held cell: the HELD cell with the smallest distance from NR (R96). -/
def lowestHeld (s : State) (w : Window) : Option Held :=
  match heldIn s w with
  | [] => none
  | (_, h) :: rest => some (rest.foldl (fun best e => nearer w.nr best e.2) h)

def setWindow (i : StreamIx) (w : Window) (s : State) : State :=
  modRejoin (fun r => { r with windows := sset r.windows i (some w) }) s

def setStore (st : CellStore) (s : State) : State := modRejoin (fun r => { r with store := st }) s

def countStream (i : StreamIx) (f : StreamCounts → StreamCounts) (s : State) : State :=
  modRejoin (fun r => { r with counts := supd r.counts i f }) s

def countArrival (p : Path) (f : ArrivalCounts → ArrivalCounts) (s : State) : State :=
  modRejoin (fun r => { r with arrivals := r.arrivals.upd p f }) s

/-- The next release event of a window (R96). -/
def nextRelease (s : State) (i : StreamIx) (w : Window) : Option Nat :=
  (lowestHeld s w).map fun h => releaseTime s i h.cell.origin

/-- The cell of the next release event, when link time stands at it (R96). -/
def releaseDue (s : State) (i : StreamIx) : Option (Window × Held) :=
  match windowOf s i with
  | none => none
  | some w =>
    if w.next = some s.clock.link then (lowestHeld s w).map fun h => (w, h) else none

/-- The next release event is recomputed (R96). -/
def refreshNext (i : StreamIx) (s : State) : State :=
  match windowOf s i with
  | some w => setWindow i { w with next := nextRelease s i w } s
  | none => s

/-- A stream 0 record goes to the terminal's own blocks, others to egress (R107, R108): markers of stream 0 reach no
block. -/
def emitMarker (i : StreamIx) (r : EgressRecord) (s : State) : State := if i = 0 then s else emit r s

/-! ### Overdue cells (R99) -/

/-- Link time is after a held cell's release time (R99). Exactly half of M apart, it is not (DESIGN CHOICE, assumption
log 46). -/
def overdue (s : State) (i : StreamIx) (h : Held) : Bool :=
  atOrAfter s.clock.link (releaseTime s i h.cell.origin) &&
    decide (s.clock.link ≠ releaseTime s i h.cell.origin)

/-- A held cell is expelled: its slot is EMPTY and it counts late for its stream and its arrival path. -/
def expel (i : StreamIx) (w : Window) (h : Held) (s : State) : State :=
  countArrival h.path (fun c => { c with late := bump c.late })
    (countStream i (fun c => { c with late := bump c.late })
      (setStore (s.rejoin.store.erase (placeOf w h.cell.seq)) s))

/-- Overdue lowest cells are expelled one after another, at most `n` of them. -/
def expelOverdue (i : StreamIx) : Nat → State → State
  | 0, s => s
  | n + 1, s =>
    match windowOf s i with
    | none => s
    | some w =>
      match lowestHeld s w with
      | none => s
      | some h => if overdue s i h then expelOverdue i n (expel i w h s) else s

/-- The overdue test on a window, and its next release event after it (R99, R96). -/
def afterLowest (i : StreamIx) (s : State) : State := refreshNext i (expelOverdue i s.rejoin.store.length s)

/-! ### Flush (R102) -/

/-- A window's held cells are discarded and counted as flushed, and it becomes unanchored. NR and the origin mark, which
mean nothing until it anchors again, keep their values (DESIGN CHOICE, assumption log 39). -/
def flushWindow (i : StreamIx) (w : Window) (s : State) : State :=
  setWindow i { w with anchored := false, strayRun := 0, next := none }
    (setStore (s.rejoin.store.clear w.offset w.span)
      (countStream i (fun c => { c with flushed := bumpBy (heldIn s w).length c.flushed }) s))

/-- A flush with its restart marker. -/
def flushStream (i : StreamIx) (reason : FlushReason) (s : State) : State :=
  match windowOf s i with
  | some w => emitMarker i (.restart i reason) (flushWindow i w s)
  | none => s

/-! ### Taking a copy -/

/-- A copy handed to the engine, with its arrival record (R52). -/
structure Taken where
  path : Path
  quality : Quality
  copy : CellArrival
deriving DecidableEq, Repr

/-- The copy is LATE (R88). -/
def isLate (s : State) (c : Taken) : Bool :=
  atOrAfter s.clock.link (releaseTime s c.copy.cell.stream c.copy.cell.origin)

/-- The copy is EARLY (R88): its wait is more than twice its stream's hold. -/
def isEarly (s : State) (c : Taken) : Bool :=
  decide (2 * holdUs (sget s.plan.active c.copy.cell.stream) <
    tsub (releaseTime s c.copy.cell.stream c.copy.cell.origin) s.clock.link)

/-- A LATE copy is discarded and counted for its stream and path (R89, R93). -/
def countLate (c : Taken) (s : State) : State :=
  countArrival c.path (fun x => { x with late := bump x.late })
    (countStream c.copy.cell.stream (fun x => { x with late := bump x.late }) s)

/-- An EARLY copy is discarded and counted for its stream (R89, R93). -/
def countEarly (c : Taken) (s : State) : State :=
  countStream c.copy.cell.stream (fun x => { x with early := bump x.early }) s

/-- The slot record of a copy (R86). -/
def heldOf (c : Taken) : Held :=
  { cell := c.copy.cell, path := c.path, quality := c.quality, arrival := c.copy.arrival }

/-- A timely copy anchors the window and is HELD (R89). -/
def anchor (w : Window) (c : Taken) (s : State) : State :=
  countArrival c.path (fun x => { x with first := bump x.first })
    (refreshNext c.copy.cell.stream
      (setWindow c.copy.cell.stream
        { w with anchored := true, nr := c.copy.cell.seq, originMark := c.copy.cell.origin, strayRun := 0 }
        (setStore (s.rejoin.store.write (placeOf w c.copy.cell.seq) (heldOf c)) s)))

/-- A copy taken for an unanchored window (R89). -/
def takeUnanchored (w : Window) (c : Taken) (s : State) : State :=
  if isLate s c then countLate c s
  else if isEarly s c then countEarly c s
  else anchor w c s

/-- The window resyncs at the eighth STRAY, which is taken again for the unanchored window (R92). -/
def resyncWith (w : Window) (c : Taken) (s : State) : State :=
  let i := c.copy.cell.stream
  let t := raise kindResync
    (countStream i (fun x => { x with resyncs := bump x.resyncs }) (emitMarker i (.restart i .resync) (flushWindow i w s)))
  match windowOf t i with
  | some v => takeUnanchored v c t
  | none => t

/-- A STRAY is discarded and counted, and raises the stray run; the eighth resyncs the window (R92). -/
def takeStray (w : Window) (c : Taken) (s : State) : State :=
  let t := countStream c.copy.cell.stream (fun x => { x with strays := bump x.strays }) s
  if 7 ≤ w.strayRun then resyncWith w c t
  else setWindow c.copy.cell.stream { w with strayRun := w.strayRun + 1 } t

/-- A STALE copy is discarded and counted (R91). -/
def countStale (c : Taken) (s : State) : State :=
  countStream c.copy.cell.stream (fun x => { x with stale := bump x.stale }) s

/-- A timely copy whose slot is EMPTY is HELD (R93). -/
def holdCopy (w : Window) (c : Taken) (s : State) : State :=
  countArrival c.path (fun x => { x with first := bump x.first })
    (refreshNext c.copy.cell.stream
      (setStore (s.rejoin.store.write (placeOf w c.copy.cell.seq) (heldOf c)) s))

/-- A CLEAN copy replaces a CORRECTED one; the origin time is the held cell's (R94). -/
def upgrade (w : Window) (h : Held) (c : Taken) (s : State) : State :=
  countArrival c.path (fun x => { x with upgrades := bump x.upgrades })
    (countStream c.copy.cell.stream (fun x => { x with upgrades := bump x.upgrades })
      (setStore (s.rejoin.store.write (placeOf w c.copy.cell.seq)
        { h with cell := { h.cell with copyIndex := c.copy.cell.copyIndex, payload := c.copy.cell.payload }, path := c.path, quality := .clean, arrival := c.copy.arrival }) s))

/-- A DUPLICATE is discarded and counted (R94). -/
def countDuplicate (c : Taken) (s : State) : State :=
  countArrival c.path (fun x => { x with duplicates := bump x.duplicates })
    (countStream c.copy.cell.stream (fun x => { x with duplicates := bump x.duplicates }) s)

/-- The slot of a copy in the window decides: HELD where it is EMPTY, an UPGRADE or a DUPLICATE of the held copy otherwise
(R93, R94). -/
def takeInSlot (w : Window) (c : Taken) (s : State) : State :=
  match s.rejoin.store.read (placeOf w c.copy.cell.seq) with
  | none => holdCopy w c s
  | some h => if h.quality = .corrected ∧ c.quality = .clean then upgrade w h c s else countDuplicate c s

/-- The copy's slot holds its cell, and that cell is among those that the release event of this moment releases, one after
another (R96, R100): the event stands, the cell's release time is now, and no held cell below it has a later one. -/
def isReleasing (s : State) (c : Taken) : Bool :=
  let i := c.copy.cell.stream
  match windowOf s i with
  | none => false
  | some w =>
    match s.rejoin.store.read (placeOf w c.copy.cell.seq) with
    | none => false
    | some h =>
      decide (w.next = some s.clock.link) && decide (h.cell.seq = c.copy.cell.seq) &&
        decide (releaseTime s i h.cell.origin = s.clock.link) &&
        (heldIn s w).all fun e =>
          decide (seqDist h.cell.seq w.nr ≤ seqDist e.2.cell.seq w.nr) ||
            atOrAfter s.clock.link (releaseTime s i e.2.cell.origin)

/-- A copy in the window: the stray run is 0, then the time tests, then its slot (R90, R93, R94). A copy of a cell
that is being released, taken ahead of its release, goes to its slot without a time test (R100). -/
def takeInWindow (w : Window) (c : Taken) (s : State) : State :=
  let v := { w with strayRun := 0 }
  let t := setWindow c.copy.cell.stream v s
  if isReleasing s c then takeInSlot v c t
  else if isLate t c then countLate c t
  else if isEarly t c then countEarly c t
  else takeInSlot v c t

/-- The copy lies in the window (R90). -/
def inSpan (w : Window) (c : Taken) : Bool := decide (seqDist c.copy.cell.seq w.nr < w.span)

/-- A copy outside the window is a STRAY: ahead of it, or behind NR with an origin after the origin mark (R90, R91). An origin
exactly half of M from the mark, where each of the two is before the other, counts as after it (DESIGN CHOICE, assumption
log 46). -/
def isStray (w : Window) (c : Taken) : Bool :=
  !inSpan w c && (decide (seqDist c.copy.cell.seq w.nr < 32768) || !atOrAfter w.originMark c.copy.cell.origin)

/-- A copy taken for an anchored window, by its distance from NR (R90, R91). -/
def takeAnchored (w : Window) (c : Taken) (s : State) : State :=
  if inSpan w c then takeInWindow w c s
  else if isStray w c then takeStray w c s
  else countStale c s

/-- The engine takes a copy (R87): at a MAST in FREE it is unaligned; without a window it is unplanned; otherwise its
window judges it. -/
def takeCopy (c : Taken) (s : State) : State :=
  if s.role = .mast ∧ s.time.state = .free then
    countArrival c.path (fun x => { x with unaligned := bump x.unaligned }) s
  else
    match windowOf s c.copy.cell.stream with
    | none => countArrival c.path (fun x => { x with unplanned := bump x.unplanned }) s
    | some w => if w.anchored then takeAnchored w c s else takeUnanchored w c s

/-- The copy is the eighth STRAY of its window, which resyncs (R92). -/
def resyncs (s : State) (c : Taken) : Bool :=
  !(decide (s.role = .mast) && decide (s.time.state = .free)) &&
    match windowOf s c.copy.cell.stream with
    | none => false
    | some w => w.anchored && isStray w c && decide (7 ≤ w.strayRun)

/-! ### Release (R97, R98) -/

/-- The gap run before a released cell is declared (R97). -/
def declareGap (i : StreamIx) (w : Window) (h : Held) (s : State) : State :=
  if seqDist h.cell.seq w.nr = 0 then s
  else
    raise kindGap
      (countStream i (fun c => { c with gapCells := bumpBy (seqDist h.cell.seq w.nr) c.gapCells })
        (emitMarker i (.gap i w.nr (seqDist h.cell.seq w.nr)) s))

/-- The cell record of a released cell (R98). -/
def cellRecord (i : StreamIx) (h : Held) : EgressRecord :=
  .cell i h.cell.seq h.quality h.path h.cell.copyIndex h.cell.payload

/-- The cell leaves its slot, NR and the origin mark follow it, and it counts as released (R98). -/
def vacate (i : StreamIx) (w : Window) (h : Held) (s : State) : State :=
  setWindow i { w with nr := h.cell.seq + 1, originMark := h.cell.origin }
    (setStore (s.rejoin.store.erase (placeOf w h.cell.seq))
      (countStream i (fun c => { c with released := bump c.released }) s))

/-- One cell is released: its gap marker, its record, its slot, and the overdue test on what is then lowest (R97 to
R99). -/
def releaseCell (i : StreamIx) (w : Window) (h : Held) (s : State) : State :=
  afterLowest i (vacate i w h (emitMarker i (cellRecord i h) (declareGap i w h s)))

/-! ### The switch (R103, R104) -/

/-- What happens to one index as a new plan becomes active: kept, flushed and laid out anew, removed, or laid out
(R103). `old` and `new` are the plans. -/
def relayoutOne (old new : Plan) (i : StreamIx) (s : State) : State :=
  if inbound s.role (sget new i) then
    let span := spanOf (sget new i)
    let offset := offsetOf s.role new i
    match windowOf s i with
    | some w =>
      if (sget old i).cls = (sget new i).cls ∧ w.span = span ∧ w.offset = offset then s
      else
        emitMarker i (.restart i .switch) (setWindow i (freshWindow span offset) (flushWindow i w s))
    | none => emitMarker i (.restart i .switch) (setWindow i (freshWindow span offset) s)
  else
    match windowOf s i with
    | some w => modRejoin (fun r => { r with windows := sset r.windows i none }) (flushWindow i w s)
    | none => s

/-- The windows of the new inbound set, in ascending index; kept windows then take the new hold and expel their overdue
cells (R103, R104). -/
def relayout (old new : Plan) (s : State) : State :=
  allStreams.foldl (fun t i => afterLowest i t) (allStreams.foldl (fun t i => relayoutOne old new i t) s)

/-- Every window of the inbound set is flushed, in ascending index (R105). -/
def flushAll (reason : FlushReason) (s : State) : State := allStreams.foldl (fun t i => flushStream i reason t) s

end Sys2Proof.Machine
end

