-- ==== Sys2Proof/Machine/Supervision.lean ====
section
/-! DEFINITION. Path supervision: acquisition, probation, degradation, alignment loss and coincidence (sections 4.1,
4.2), echo delay (4.5), link time (4.6), the epoch comparison (R152) and the sweep's reports (8.3). -/

namespace Sys2Proof.Machine

/-! ### Alignment loss (R64, R65) -/

/-- A loss is excluded from the coincidence test (R65). -/
def lossExcluded (s : State) (p : Path) : Bool :=
  (s.sup.get p).lastMuting || s.storm.peerParked || decide ((s.sup.get p).lastOffset < 0) ||
    decide (20000 < (s.sup.get p).lastOffset)

/-- A path other than `p` whose last counted loss is unused and at most 2,000 µs old (R65). -/
def isPartner (s : State) (p q : Path) : Bool :=
  decide (q ≠ p) &&
    match (s.sup.get q).lastLoss with
    | some l => !l.used && decide (s.clock.ref ≤ l.instant + 2000)
    | none => false

/-- A loss that has served in an indication is marked used. -/
def markUsed (p : Path) (s : State) : State :=
  modSup p (fun v => { v with lastLoss := v.lastLoss.map fun l => { l with used := true } }) s

/-- The coincidence test of a loss taken now (R65). -/
def coincidence (p : Path) (s : State) : State :=
  if lossExcluded s p then s
  else
    let partners := allPaths.filter (isPartner s p)
    let t := modSup p (fun v => { v with lastLoss := some { instant := s.clock.ref, used := !partners.isEmpty } }) s
    if partners.isEmpty then t
    else
      strikeIndication .coincident
        (modTime (fun x => { x with coincident := bump x.coincident }) (partners.foldl (fun u q => markUsed q u) t))

/-- A path of this state raises PATH-LOST when it loses alignment (R64). -/
def losesService : PathState → Bool
  | .up => true
  | .degraded => true
  | .sweep => true
  | _ => false

/-- The path loses alignment (R64): ACQUIRE, PATH-LOST where it was in service, the counter, what follows from the path's
state, and the coincidence test. PATH-LOST is raised ahead of TIME-SOURCE (DESIGN CHOICE, assumption log 43). A sweep that
the loss leaves without another path is suspended ahead of the coincidence test, so ahead of the shelter orders that a
COINCIDENT of this loss brings (DESIGN CHOICE, assumption log 54). -/
def loseAlignment (p : Path) (s : State) : State :=
  let t := modSup p (fun v => { v with alignLosses := bump v.alignLosses }) s
  let u := if losesService (pstate s p) then raise kindPathLost t else t
  coincidence p (settle (enterAcquire p u))

/-! ### Superframe reports -/

/-- What the receiving half reports of a superframe (R53): its header result and FAILED blocks, or a silent one. `part`
says that the path entered SWEEP during it. -/
inductive Report where
  | judged (result : HeaderResult) (failed : Nat) (part : Bool)
  | silent
deriving DecidableEq, Repr

/-- A clean superframe: a GOOD header and no FAILED block. -/
def cleanReport : Report → Bool
  | .judged .good 0 _ => true
  | _ => false

/-- A completed count waits for the delay estimate: the last report found it at the probation length, which it still
reaches, with the estimate unset (R62). -/
def probationWaits (v : Supervisor) : Bool := v.probMet && v.delay.isNone && decide (v.probLen ≤ v.probCount)

/-- The probation count after a report: a clean report increments it, but for a completed count that waits (R62). -/
def probationAfter (r : Report) (v : Supervisor) : Nat :=
  match r with
  | .silent => v.probCount
  | _ => if cleanReport r then (if probationWaits v then v.probCount else v.probCount + 1) else 0

/-- The path enters UP from PROBATION and PATH-UP is raised (R62), behind what follows from the change, TIME-SOURCE among it
(DESIGN CHOICE, assumption log 43). -/
def enterUp (p : Path) (s : State) : State := raise kindPathUp (settle (setState p .up s))

/-- A report brings the probation count to the probation length, or finds it there (R62, R69). -/
def probationMet (r : Report) (v : Supervisor) : Bool := decide (v.probLen ≤ probationAfter r v)

/-- A report in PROBATION (R62, R69): the one moment at which the count is compared with the length. -/
def reportProbation (p : Path) (r : Report) (s : State) : State :=
  let t := modSup p (fun v => { v with probCount := probationAfter r v, probMet := probationMet r v }) s
  if probationMet r (s.sup.get p) ∧ (s.sup.get p).delay ≠ none then enterUp p t else t

/-- The FAILED blocks a report gives. -/
def failedBlocks : Report → Nat
  | .judged _ n _ => n
  | .silent => 0

/-- The path degrades, or a degraded path starts its recovery again (R63). -/
def degrade (p : Path) (s : State) : State :=
  settle (modSup p (fun v => { v with state := .degraded, recCount := 0 }) s)

/-- The recovery count after a report (R63). -/
def recoveryAfter (r : Report) (v : Supervisor) : Nat :=
  match r with
  | .silent => v.recCount
  | _ => if cleanReport r then v.recCount + 1 else 0

/-- A report in DEGRADED (R63). -/
def reportDegraded (p : Path) (r : Report) (s : State) : State :=
  let t := modSup p (fun v => { v with recCount := recoveryAfter r v }) s
  if 100 ≤ recoveryAfter r (s.sup.get p) then settle (setState p .up t) else t

/-- What a report counts in the step in progress: nothing, or its failed blocks; a MISSING header counts one (R160). -/
def stepShare : Report → Option Nat
  | .judged .missing _ _ => some 1
  | .judged _ n part => if part then none else some n
  | .silent => none

/-- The current sweep after a counted report (R160). -/
def sweepAfter (n : Nat) (c : CurrentSweep) : CurrentSweep :=
  if c.taken + 1 < stepReports then { c with taken := c.taken + 1, failed := c.failed + n }
  else { c with counts := c.counts ++ [c.failed + n], taken := 0, failed := 0 }

/-- A report of the swept path (R160, R161): the step in progress takes it; the report that completes step 31 ends the
sweep and returns the path to UP. SWEEP-END is raised ahead of TIME-SOURCE (DESIGN CHOICE, assumption log 43). -/
def reportSweep (p : Path) (r : Report) (s : State) : State :=
  match s.sweep.engine, stepShare r with
  | .running c, some n =>
    if c.path ≠ p then s
    else if (sweepAfter n c).counts.length < sweepSteps then
      modSweep (fun w => { w with engine := .running (sweepAfter n c) }) s
    else settle (endSweep .complete false (sweepAfter n c) (setState p .up s))
  | _, _ => s

/-- The supervisor takes a superframe report (R53, R62, R63, R67). -/
def takeReport (p : Path) (r : Report) (s : State) : State :=
  match pstate s p with
  | .probation => reportProbation p r s
  | .up => if (s.sup.get p).degradeThr ≤ failedBlocks r then degrade p s else s
  | .degraded => reportDegraded p r s
  | .sweep => reportSweep p r s
  | _ => s

/-! ### Headers that are not GOOD -/

/-- A result that is not GOOD on path A of a PARKED terminal: after two in a row its receiving half searches (R60). -/
def parkedMiss (p : Path) (s : State) : State :=
  modFramer p (fun f =>
    match f.expected with
    | none => f
    | some _ => if 1 ≤ f.parkedMisses then { f with expected := none, parkedMisses := 0 } else { f with parkedMisses := f.parkedMisses + 1 }) s

/-- What a FAILED or MISSING result does after the expected instant moved on: in ACQUIRE it empties the run (R61); in
the states that track headers it lengthens the miss run, and the second loses alignment (R64); a first FAILED superframe
is judged at the last good length, a first MISSING one is reported (R53, R55). Of a second one the loss is taken, and its
superframe gives no report, in SWEEP either (DESIGN CHOICE, assumption log 51). -/
def notGood (p : Path) (result : HeaderResult) (s : State) : State :=
  match pstate s p with
  | .off => parkedMiss p s
  | .shelter => s
  | .acquire => modSup p (fun v => { v with acqRun := 0 }) s
  | _ =>
    let t := modSup p (fun v => { v with missRun := v.missRun + 1 }) s
    if 1 ≤ (s.sup.get p).missRun then loseAlignment p t
    else
      match result with
      | .missing => takeReport p (.judged .missing 0 false) t
      | _ =>
        modFramer p (fun f => { f with rx := some { result := .failed, length := f.lastGood, judged := 0, failed := 0, partSweep := false } }) t

/-- A header result moves the expected instant on by a superframe, ends the judgement of the superframe before, and
counts a header failure where there was an instant to expect (R48, R55). -/
def failHeader (p : Path) (s : State) : State :=
  modFramer p (fun f =>
    { f with
      rx := none
      expected := f.expected.map fun e => e + superframeUs
      headerFailures := if f.expected.isSome then bump f.headerFailures else f.headerFailures }) s

/-- A header found FAILED; an own-role header is counted (R48). -/
def takeFailed (p : Path) (a : HeaderArrival) (s : State) : State :=
  let t := if ownRole s a then modFramer p (fun f => { f with ownRoleHeaders := bump f.ownRoleHeaders }) s else s
  notGood p .failed (failHeader p t)

/-! ### Delay samples (R75, R76) -/

/-- The delay estimate after an accepted sample: RTT × 4 at first, then an eighth of the way, toward minus infinity. -/
def delayAfter (rtt : Nat) : Option Nat → Nat
  | none => rtt * 4
  | some d => ((d : Int) + ((rtt : Int) * 4 - (d : Int)) / 8).toNat

/-- The round-trip time of a header, in µs (R75). -/
def rttOf (a : HeaderArrival) : Int :=
  (tsub a.arrivalLink a.header.echoOf.toNat : Int) - (a.header.turnaround.toNat : Int)

/-- The header echoes one sent before link time was last set (R75). A header that arrives a quarter of M after the
setting, or later, echoes a later one (assumption log 44). -/
def isStaleEcho (v : Supervisor) (a : HeaderArrival) : Bool :=
  match v.staleUntil with
  | none => false
  | some t => decide (a.arrivalRef < t.instant + staleSpan) && !atOrAfter a.header.echoOf.toNat t.first

/-- A GOOD header, in whatever state it is taken, that echoes one sent since the setting ends the discarding (R75). -/
def staleAfter (v : Supervisor) (a : HeaderArrival) : Option Setting :=
  if a.header.echoValid && !isStaleEcho v a then none else v.staleUntil

/-- A delay sample is discarded and counted (R75). -/
def discardSample (p : Path) (s : State) : State :=
  modSup p (fun v => { v with samplesDiscarded := bump v.samplesDiscarded }) s

/-- An accepted sample updates D; the first one completes a probation that waits for it, as the last report left it (R76,
R62, R69). -/
def acceptSample (p : Path) (rtt : Nat) (s : State) : State :=
  let t := modSup p (fun v => { v with delay := some (delayAfter rtt v.delay), lastRtt := some rtt }) s
  if pstate s p = .probation ∧ (s.sup.get p).delay = none ∧ (s.sup.get p).probMet = true then enterUp p t
  else evalHoldShort t

/-- The delay sample of a GOOD header (R75). -/
def takeSample (p : Path) (a : HeaderArrival) (s : State) : State :=
  if a.header.echoValid = false then s
  else if isStaleEcho (s.sup.get p) a then discardSample p s
  else if rttOf a < 0 ∨ 20000 < rttOf a then discardSample p s
  else acceptSample p (rttOf a).toNat s

/-! ### Link time at the MAST (R79, R80) -/

/-- The error of the local link time: the expected time minus the arrival time (R79). -/
def linkError (s : State) (p : Path) (a : HeaderArrival) : Int :=
  signedSub (tadd a.header.sendTime.toNat (((s.sup.get p).delay.getD 0 + 4) / 8)) a.arrivalLink

/-- The next multiple of 1,000 after a link time. -/
def nextStart (link : Nat) : Nat := tadd (link / superframeUs * superframeUs) superframeUs

/-- A path at the setting of link time: its superframe is cut off, its queue is purged, stale samples are discarded from
now on (R44, R26, R75). -/
def cutForSetting (link : Nat) (p : Path) (s : State) : State :=
  purgeQueue p (cutTransmit p (modSup p (fun v => { v with staleUntil := some { first := nextStart link, instant := s.clock.ref } }) s))

/-- Link time is set: it steps by the error, the record is LOCKED, and a new superframe's budget counts begin (R79,
R26). The present instant is not a superframe start: the first header is that of the next multiple of 1,000 (R44). -/
def setLink (e : Int) (s : State) : State :=
  let link := tmove s.clock.link e
  let t := modClock (fun c => { c with link := link, slew := none, owed := 0, rolled := true, started := true })
    (modTime (fun r => { r with state := .locked, lastError := some e }) s)
  cutForSetting link .w (cutForSetting link .b (cutForSetting link .a
    (modDisp (fun d => { d with budget := sall 0 }) t)))

/-- A correction: the error clamped to −2 to +2 µs, to be spread over the next 1,000 µs (R80). -/
def correction (e : Int) : Int := max (-2) (min 2 e)

/-- A LOCKED record takes a correction, which replaces one still being spread (R80). -/
def correctLink (e : Int) (s : State) : State :=
  modClock (fun c => { c with slew := some { c := correction e, spent := 0 } })
    (modTime (fun r => { r with lastError := some e, clamped := if correction e = e then r.clamped else bump r.clamped }) s)

/-- A GOOD header taken on the MAST's time source (R79, R80). -/
def alignLink (p : Path) (a : HeaderArrival) (s : State) : State :=
  match s.time.state with
  | .free => setLink (linkError s p a) s
  | .locked => correctLink (linkError s p a) s
  | .holdover => s

/-! ### The epoch comparison (R152) -/

/-- A GOOD header on the epoch reference path. -/
def compareEpoch (a : HeaderArrival) (s : State) : State :=
  if a.header.epoch = s.plan.epoch then
    setCond kindEpochSplit false
      (modSwitch (fun w => { w with peerEpoch := some a.header.epoch, split := 0 }) s)
  else
    let n := min 20 (s.switch.split + 1)
    let t := modSwitch (fun w => { w with peerEpoch := some a.header.epoch, split := n }) s
    if n = 20 then setCond kindEpochSplit true t else t

/-! ### GOOD headers -/

/-- The framer's part of a GOOD header: the echo record (R46), the last good length (R55), the expected instant (R48). -/
def framerGood (p : Path) (a : HeaderArrival) (s : State) : State :=
  modFramer p (fun f =>
    { f with
      echo := some { sendTime := a.header.sendTime.toNat, arrivalRef := a.arrivalRef }
      lastGood := headerLength a
      rx := none
      parkedMisses := 0
      expected := if pstate s p = .acquire then none else some (a.arrivalRef + superframeUs) }) s

/-- What the supervisor keeps of a GOOD header in every state: what the coincidence test reads (R65), and whether old
echoes are still discarded (R75). -/
def rememberHeader (p : Path) (a : HeaderArrival) (s : State) : State :=
  modSup p (fun v =>
    { v with
      lastMuting := a.header.mutingNext
      lastOffset := signedSub a.arrivalLink a.header.sendTime.toNat
      staleUntil := staleAfter v a }) s

/-- The header extends the acquisition run: 1,000 µs after the previous GOOD header within 4 µs, and the next superframe
number (R61). The previous GOOD header is the echo record's. -/
def extendsRun (s : State) (p : Path) (a : HeaderArrival) : Bool :=
  match (s.framer.get p).echo with
  | none => false
  | some e =>
    decide (0 < (s.sup.get p).acqRun) && decide (e.arrivalRef + superframeUs ≤ a.arrivalRef + 4) &&
      decide (a.arrivalRef ≤ e.arrivalRef + superframeUs + 4) && decide (a.header.number = superframeOf e.sendTime + 1)

/-- The acquisition run after a GOOD header (R61). -/
def runAfter (s : State) (p : Path) (a : HeaderArrival) : Nat :=
  if extendsRun s p a then (s.sup.get p).acqRun + 1 else 1

/-- The path enters PROBATION (R61). -/
def enterProbation (p : Path) (arrivalRef : Nat) (s : State) : State :=
  settle (modFramer p (fun f => { f with expected := some (arrivalRef + superframeUs) })
    (modSup p (fun v => { v with state := .probation, probCount := 0, probMet := false, recCount := 0, missRun := 0 }) s))

/-- A GOOD header in ACQUIRE; `run` is the run it makes (R61). -/
def goodAcquire (p : Path) (a : HeaderArrival) (run : Nat) (s : State) : State :=
  let t := modSup p (fun v => { v with acqRun := run }) s
  if 3 ≤ run then enterProbation p a.arrivalRef t else t

/-- The superframe behind a GOOD header: its blocks are judged at its length, or it is silent and reported at once (R53,
R55). -/
def beginSuperframe (p : Path) (a : HeaderArrival) (s : State) : State :=
  if silentHeader a then takeReport p .silent s
  else
    modFramer p (fun f => { f with rx := some { result := .good, length := headerLength a, judged := 0, failed := 0, partSweep := false } }) s

/-- A GOOD header in a state that tracks headers: the miss run ends, the delay sample is taken, link time is aligned on
the time source, and its superframe begins (R64, R75, R79, R53). -/
def goodTracked (p : Path) (a : HeaderArrival) (onSource : Bool) (s : State) : State :=
  let t := takeSample p a (modSup p (fun v => { v with missRun := 0 }) s)
  beginSuperframe p a (if onSource then alignLink p a t else t)

/-- The path supervisor's part of a GOOD header, by the state in which it was taken. -/
def superviseGood (p : Path) (a : HeaderArrival) (s : State) : State :=
  match pstate s p with
  | .acquire => goodAcquire p a (runAfter s p a) (rememberHeader p a (framerGood p a s))
  | .off => rememberHeader p a (framerGood p a s)
  | .shelter => s
  | _ =>
    goodTracked p a (decide (s.role = .mast) && decide (s.time.source = some p))
      (rememberHeader p a (framerGood p a s))

/-- A GOOD header is handed to the framer, the path supervisor, the storm unit and the switch engine (R49); the epoch
test is for the path that was the reference path when the header was taken (R152). -/
def takeGood (p : Path) (a : HeaderArrival) (s : State) : State :=
  let t := hearPeer a.header.level a.header.parked (superviseGood p a s)
  if s.switch.refPath = some p then compareEpoch a t else t

/-- A header found by a path's receiving half (R48). -/
def receiveHeader (p : Path) (a : HeaderArrival) (s : State) : State :=
  if takesHeaders s p && inWindow (s.framer.get p) a.arrivalRef then
    (if headerGood s a then takeGood p a s else takeFailed p a s)
  else s

/-- The receiving half has an expected instant and no header came within 4 µs of it (R48). -/
def headerOverdue (s : State) (p : Path) : Bool :=
  takesHeaders s p &&
    match (s.framer.get p).expected with
    | none => false
    | some e => decide (e + 4 ≤ s.clock.ref)

/-- A MISSING header (R48, R55). -/
def missHeader (p : Path) (s : State) : State :=
  if headerOverdue s p then notGood p .missing (failHeader p s) else s

/-! ### Blocks -/

/-- The cells of a block that passes go to rejoin in UP and DEGRADED, are counted as discards in PROBATION, and are
withheld in SWEEP (R52). -/
def handOn (p : Path) (b : BlockArrival) (s : State) : State :=
  match pstate s p with
  | .up => (liveCells b).foldl (fun t c => takeCopy { path := p, quality := blockQuality b, copy := c } t) s
  | .degraded => (liveCells b).foldl (fun t c => takeCopy { path := p, quality := blockQuality b, copy := c } t) s
  | .probation => modSup p (fun v => { v with probDiscards := bumpBy (liveCells b).length v.probDiscards }) s
  | _ => s

/-- A block is counted and its cells go where the path's state sends them (R51 to R53). -/
def judgeBlock (p : Path) (r : RxSuperframe) (b : BlockArrival) (s : State) : State :=
  let t := if pstate s p = .sweep then s else countBlock p (blockFails r b) (blockQuality b) s
  if blockFails r b then t else handOn p b t

/-- The superframe in judgement after one more block (R53). -/
def rxAfter (r : RxSuperframe) (b : BlockArrival) : RxSuperframe :=
  { r with judged := r.judged + 1, failed := if blockFails r b then r.failed + 1 else r.failed }

/-- A block's check bytes arrive (R51, R53): it is judged, and the last block of the superframe reports it. -/
def receiveBlock (p : Path) (b : BlockArrival) (s : State) : State :=
  match (s.framer.get p).rx with
  | none => s
  | some r =>
    let t := judgeBlock p r b s
    if (rxAfter r b).judged < blocksOf p r.length then modFramer p (fun f => { f with rx := some (rxAfter r b) }) t
    else
      takeReport p (.judged r.result (rxAfter r b).failed r.partSweep) (modFramer p (fun f => { f with rx := none }) t)

/-- What a path's receiving half meets. -/
def receive (p : Path) (e : RxEvent) (s : State) : State :=
  match e with
  | .header a => receiveHeader p a s
  | .missing => missHeader p s
  | .block b => receiveBlock p b s

/-! ### Starting a sweep (R159, R67) -/

/-- The path moves from UP to SWEEP and the engine is RUNNING; the superframe in judgement belongs to no step (R159,
R160). -/
def startSweep (c : CurrentSweep) (s : State) : State :=
  settle (modSweep (fun w => { w with engine := .running c })
    (modFramer c.path (fun f => { f with rx := f.rx.map fun r => { r with partSweep := true } }) (setState c.path .sweep s)))

/-- The conditions on which a sweep starts (R159). -/
def sweepReady (s : State) (p : Path) : Bool :=
  decide (pstate s p = .up) && otherEligible s p && !stormy s.storm.effective

end Sys2Proof.Machine
end

