-- ==== Sys2Proof/Machine/Switch.lean ====
section
/-! DEFINITION. The switch engine: outcomes, cancel runs, answers, proposals taken, the deadline and the switch itself
(chapter 7). COMMIT and ABORT-SWITCH, as commands, are in PlanEdit.lean. -/

namespace Sys2Proof.Machine

/-! ### Outcomes (R136) -/

/-- The engine records an outcome and is IDLE: the last result record is replaced, SWITCH-DONE or SWITCH-FAILED is raised
(R136). -/
def recordOutcome (r : SwitchResult) (s : State) : State :=
  raise (if r.outcome = .done then kindSwitchDone else kindSwitchFailed)
    (modSwitch (fun w => { w with engine := .idle, last := some r }) s)

/-- The result record of a switch in hand, under its tag. -/
def resultOf (p : Pending) (o : Outcome) : SwitchResult :=
  { epoch := p.tag, outcome := o, proposer := p.proposer, n := p.n }

/-- The engine is IDLE. -/
def engineIdle (s : State) : Bool := decide (s.switch.engine = .idle)

/-! ### Cancel runs (R142) -/

/-- A superframe number lies behind another one (00_scope, "Sequence distance", for superframe numbers). -/
def liesBehind (x y : SfNum) : Bool := decide (32768 ≤ (x - y).toNat)

/-- A run places one CANCEL (R142). -/
def placeCancel (e : Epoch) (s : State) : State :=
  modSwitch (fun w => { w with cancels := bump w.cancels }) (place (.cancel s.role (e.setWidth 8)) s)

/-- The run after it placed a CANCEL in the current superframe: it ends with its last superframe. -/
def runNext (e : Epoch) (last current : SfNum) : Option CancelRun :=
  if current = last ∨ liesBehind last current then none else some { epoch := e, last := last, placedIn := current }

/-- A cancel run starts with one CANCEL (R142). -/
def startRun (e : Epoch) (last : SfNum) (s : State) : State :=
  modSwitch (fun w => { w with run := runNext e last (currentSuperframe s) }) (placeCancel e s)

/-- A cancel run at a superframe start: one CANCEL, up to and including its last superframe (R142). A run whose last
superframe a setting of link time has left behind ends. -/
def stepRun (s : State) : State :=
  match s.switch.run with
  | none => s
  | some r =>
    if r.placedIn = currentSuperframe s then s
    else if liesBehind r.last (currentSuperframe s) then modSwitch (fun w => { w with run := none }) s
    else startRun r.epoch r.last s

/-! ### Answers (R140, R147) and CANCEL (R150) -/

/-- An answer that the engine cannot use (R147). -/
def strayAnswer (s : State) : State := modSwitch (fun w => { w with strayAnswers := bump w.strayAnswers }) s

/-- An ACCEPT is taken (R140). -/
def takeAccept (e : Epoch) (s : State) : State :=
  match s.switch.engine with
  | .proposing p => if e = p.tag then modSwitch (fun w => { w with engine := .armed p }) s else strayAnswer s
  | _ => strayAnswer s

/-- The outcome that a DECLINE brings (R140). An INVALID one whose validation reason byte is 0 is recorded without a
validation reason, with its index (DESIGN CHOICE, assumption log 48). -/
def declineOutcome (why : DeclineReason) (verdict : Option Reason) (index : Nat) : Outcome :=
  match why with
  | .collision => .collided
  | .invalid => .declined .invalid (some (verdict, index))
  | d => .declined d none

/-- A DECLINE is taken (R140). -/
def takeDecline (e : Epoch) (why : DeclineReason) (verdict : Option Reason) (index : Nat) (s : State) : State :=
  match s.switch.engine with
  | .proposing p =>
    if e = p.tag then recordOutcome (resultOf p (declineOutcome why verdict index)) s else strayAnswer s
  | _ => strayAnswer s

/-- A CANCEL that disarms nothing (R150). -/
def lateCancel (s : State) : State := modSwitch (fun w => { w with lateCancels := bump w.lateCancels }) s

/-- A CANCEL is taken (R150). -/
def takeCancel (e : Epoch) (s : State) : State :=
  match s.switch.engine with
  | .armed p => if e = p.tag then recordOutcome (resultOf p .cancelledByPeer) s else lateCancel s
  | _ => lateCancel s

/-! ### Taking a PROPOSE (R143 to R146) -/

/-- The epoch byte of a message: the low four bits, 0 to 15 (assumption log 9). -/
def epochOf (b : Byte) : Epoch := b.setWidth 4

/-- A DECLINE is placed and counted (R143). -/
def placeDecline (e : Epoch) (why : DeclineReason) (verdict : Option Reason) (index : Nat) (s : State) : State :=
  modSwitch (fun w => { w with declined := bump w.declined })
    (place (.decline s.role (e.setWidth 8) why verdict (BitVec.ofNat 8 index)) s)

/-- The superframes left to N (R144, R155). -/
def remainingTo (n : SfNum) (s : State) : Nat := (n - currentSuperframe s).toNat

/-- A proposal is too late (R144). -/
def tooLate (n : SfNum) (s : State) : Bool := decide (remainingTo n s < 10) || decide (32768 ≤ remainingTo n s)

/-- The lowest index whose descriptor carries an undefined value or a field out of range (R143); the list starts at the
given index. -/
def firstUndefined : Nat → List WireDesc → Option Nat
  | _, [] => none
  | i, d :: rest => if (descriptorOf d).isNone then some i else firstUndefined (i + 1) rest

/-- The plan a proposal makes: descriptor 0 of the staged plan, descriptors 1 to 31 as proposed (R6). -/
def proposedPlan (staged : Plan) (wires : List WireDesc) : Plan :=
  sof fun i =>
    match i.val with
    | 0 => sget staged i
    | k + 1 => (wires[k]?.bind descriptorOf).getD (sget staged i)

/-- The proposal is taken (R143). ACCEPT joins the outbox ahead of a NOTICE that PEER-PROPOSAL brings (DESIGN CHOICE,
assumption log 53). -/
def armOn (e : Epoch) (n : SfNum) (proposer : Role) (plan : Plan) (s : State) : State :=
  raise kindPeerProposal
    (modSwitch (fun w =>
        { w with
          engine := .armed { epoch := s.plan.epoch + 1, tag := e, n := n, proposer := proposer }
          taken := bump w.taken })
      (place (.accept s.role (e.setWidth 8)) (modPlan (fun p => { p with staged := plan }) s)))

/-- A PROPOSE is judged, from the case of an ARMED engine on (R143). A DECLINE with another reason than INVALID carries the
index byte 0 beside its validation reason of 0 (DESIGN CHOICE, assumption log 47). -/
def judgeProposal (e : Epoch) (n : SfNum) (proposer : Role) (wires : List WireDesc) (s : State) : State :=
  match s.switch.engine with
  | .armed _ => placeDecline e .busy none 0 s
  | _ =>
    if isParking s || s.switch.run.isSome then placeDecline e .busy none 0 s
    else if s.plan.holder.isSome then placeDecline e .claimed none 0 s
    else if tooLate n s then placeDecline e .tooLate none 0 s
    else
      match firstUndefined 1 wires with
      | some i => placeDecline e .invalid (some .field) i s
      | none =>
        match validate (proposedPlan s.plan.staged wires) with
        | some (r, i) => placeDecline e .invalid (some r) i s
        | none => armOn e n proposer (proposedPlan s.plan.staged wires) s

/-- A PROPOSE is taken (R143): a TRUCK that is PROPOSING declines the collision (R145), a MAST records COLLIDED and judges
the proposal with its engine IDLE (R146). -/
def takePropose (e : Epoch) (n : SfNum) (proposer : Role) (wires : List WireDesc) (s : State) : State :=
  match s.switch.engine with
  | .proposing p =>
    match s.role with
    | .truck => placeDecline e .collision none 0 s
    | .mast => judgeProposal e n proposer wires (recordOutcome (resultOf p .collided) s)
  | _ => judgeProposal e n proposer wires s

/-! ### At a superframe start -/

/-- The superframe of a proposer's deadline: N − 10 (R141). -/
def deadlineOf (p : Pending) : SfNum := p.n - 10

/-- The deadline is due: superframe N − 10 begins with the engine PROPOSING (R141). -/
def deadlineDue (s : State) : Option Pending :=
  match s.switch.engine with
  | .proposing p => if deadlineOf p = currentSuperframe s then some p else none
  | _ => none

/-- The deadline: NO-ANSWER is recorded, and a cancel run to N − 1 starts (R141). A NOTICE that SWITCH-FAILED brings joins
the outbox ahead of the run's first CANCEL (DESIGN CHOICE, assumption log 53). -/
def meetDeadline (p : Pending) (s : State) : State := startRun p.tag (p.n - 1) (recordOutcome (resultOf p .noAnswer) s)

/-- The switch is due: superframe N begins with the engine ARMED (R148). -/
def switchDue (s : State) : Option Pending :=
  match s.switch.engine with
  | .armed p => if p.n = currentSuperframe s then some p else none
  | _ => none

/-- The switch (R148): the staged plan becomes the active plan under the pending epoch, dispatch and the rejoin engine
take it up, HOLD-SHORT is evaluated again, DONE is recorded. -/
def makeSwitch (p : Pending) (s : State) : State :=
  let old := s.plan.active
  let new := s.plan.staged
  recordOutcome { epoch := p.epoch, outcome := .done, proposer := p.proposer, n := p.n }
    (evalHoldShort (relayout old new (dispatchSwitch old new
      (modPlan (fun x => { x with active := new, epoch := p.epoch, staged := new }) s))))

end Sys2Proof.Machine
end

