-- ==== Sys2Proof/Machine/Controls.lean ====
section
/-! DEFINITION. The commands of the paths, the radio, the storm unit, parking and the sweep engine at their owners
(chapters 3, 4, 6 and 8), and the park itself (R129). -/

namespace Sys2Proof.Machine

/-! ### PATH-ENABLE, SET-PATH, READ-PATH -/

/-- PATH-ENABLE at its owner (R68). -/
def ownPathEnable (path value : Byte) (s : State) : State × Answer :=
  match pathOf path, flagOf value with
  | some p, some b => (refreshOff (modSup p (fun v => { v with enable := b }) s), bare .done)
  | _, _ => (s, bare .badArgument)

/-- The probation length of a SET-PATH, clamped to 10 to 1,000 superframes (R69). -/
def probationSetting (a : PathArgs) : Option Nat × List ClampField :=
  clampSetting .probation 10 1000 (a.probation.map fun x => x.toNat)

/-- The degrade threshold of a SET-PATH, clamped to 1 to 31 blocks (R69). -/
def degradeSetting (a : PathArgs) : Option Nat × List ClampField :=
  clampSetting .degrade 1 31 (a.degrade.map fun b => b.toNat)

/-- The shelter time of a SET-PATH, clamped to 500 ms (R123). -/
def shelterSetting (a : PathArgs) : Option Nat × List ClampField :=
  clampSetting .shelter 0 500 (a.shelterMs.map fun x => x.toNat)

/-- The settings of SET-PATH that are not clamped, as values. -/
structure PathEnums where
  calmLen : Option BlockLen
  stormLen : Option BlockLen
  exposed : Option Bool
deriving DecidableEq, Repr

/-- The settings of SET-PATH that are not clamped, or none when one of them is undefined (R56, R123, section 9.6). -/
def pathEnums (a : PathArgs) : Option PathEnums :=
  if a.badPresence then none
  else do
    let calmLen ← checked blockLenOf a.calmLen
    let stormLen ← checked blockLenOf a.stormLen
    let exposed ← checked flagOf a.exposure
    some { calmLen := calmLen, stormLen := stormLen, exposed := exposed }

/-- SET-PATH's settings are written (R56, R69, R123). -/
def writePath (p : Path) (e : PathEnums) (a : PathArgs) (s : State) : State :=
  modFramer p (fun f => { f with calmLen := e.calmLen.getD f.calmLen, stormLen := e.stormLen.getD f.stormLen })
    (modSup p (fun v =>
      { v with
        probLen := (probationSetting a).1.getD v.probLen
        degradeThr := (degradeSetting a).1.getD v.degradeThr
        exposed := e.exposed.getD v.exposed
        shelterMs := (shelterSetting a).1.getD v.shelterMs }) s)

/-- SET-PATH at its owners (R56, R69, R123). -/
def ownSetPath (a : PathArgs) (s : State) : State × Answer :=
  match pathOf a.path, pathEnums a with
  | some p, some e =>
    (writePath p e a s, doneNoting ((probationSetting a).2 ++ (degradeSetting a).2 ++ (shelterSetting a).2))
  | _, _ => (s, bare .badArgument)

/-- READ-PATH's body (R82, R56). -/
def pathReading (s : State) (p : Path) : PathReading :=
  let v := s.sup.get p
  let f := s.framer.get p
  { state := v.state, enable := v.enable, acqRun := v.acqRun, probCount := v.probCount, recCount := v.recCount,
    missRun := v.missRun, delay := v.delay, lastRtt := v.lastRtt, probLen := v.probLen, degradeThr := v.degradeThr,
    shelterTimer := v.shelterTimer, calmLen := f.calmLen, stormLen := f.stormLen, inUse := f.inUse, lastGood := f.lastGood,
    power := if p = .w then some (s.radio.mode, s.radio.idleTimer, s.radio.standbyTimer, s.radio.warmTimer) else none,
    timeState := s.time.state, source := s.time.source, lastError := s.time.lastError, holdShort := s.time.holdShort }

/-- READ-PATH at its owner (R82). -/
def ownReadPath (path : Byte) (s : State) : State × Answer :=
  match pathOf path with
  | some p => (s, reading (.path (pathReading s p)))
  | none => (s, bare .badArgument)

/-! ### SET-RADIO-TIMERS and WAKE-RADIO -/

/-- A given idle setting replaces the old one, and the idle timer restarts, starts or stops with it (R74). -/
def setIdle (x : Nat) (s : State) : State :=
  let t := modRadio (fun r => { r with idleSet := x }) s
  if s.radio.mode = .active then startIdle t else t

/-- A given standby setting replaces the old one, and the standby timer restarts, starts or stops with it (R74). -/
def setStandby (x : Nat) (s : State) : State :=
  let t := modRadio (fun r => { r with standbySet := x }) s
  if s.radio.mode = .idle then startStandby t else t

/-- A setting that may be left out is taken. -/
def taking {α : Type} (f : α → State → State) : Option α → State → State
  | some x, s => f x s
  | none, s => s

/-- SET-RADIO-TIMERS at its owner (R74). -/
def ownSetRadioTimers (a : RadioArgs) (s : State) : State × Answer :=
  if a.badPresence then (s, bare .badArgument)
  else
    (taking setStandby (a.standby.map fun b => b.toNat) (taking setIdle (a.idle.map fun b => b.toNat) s), bare .done)

/-- WAKE-RADIO at its owner (R72). -/
def ownWakeRadio (s : State) : State × Answer :=
  (match s.radio.mode with
    | .standby => standbyToWarmup s
    | .idle => idleToActive s
    | .active => startIdle s
    | .warmup => s, bare .done)

/-! ### SET-STORM (R122) -/

/-- The debounce time: one byte spells the whole range (R122). -/
def debounceSetting (a : StormArgs) : Option Nat × List ClampField :=
  clampSetting .debounce 0 255 (a.debounceMs.map fun b => b.toNat)

/-- The strike time: clamped, then rounded down to a multiple of 500 ms; either is noted (R122). -/
def strikeSetting (a : StormArgs) : Option Nat × List ClampField :=
  match a.strikeMs.map fun x => x.toNat with
  | none => (none, [])
  | some x =>
    (some (clampTo 500 10000 x / 500 * 500), if clampTo 500 10000 x / 500 * 500 = x then [] else [.strikeTime])

/-- The storm-clear time in minutes (R122). -/
def stormClearSetting (a : StormArgs) : Option Nat × List ClampField :=
  clampSetting .stormClear 1 60 (a.stormClearMin.map fun b => b.toNat)

/-- The watch-clear time in minutes (R122). -/
def watchClearSetting (a : StormArgs) : Option Nat × List ClampField :=
  clampSetting .watchClear 1 60 (a.watchClearMin.map fun b => b.toNat)

/-- The polarities of a SET-STORM as values. -/
structure Polarities where
  field : Option Polarity
  flash : Option Polarity
  surge : Option Polarity
deriving DecidableEq, Repr

/-- The polarities, or none when one of them is undefined (R122, section 9.6). -/
def polarities (a : StormArgs) : Option Polarities :=
  if a.badPresence then none
  else do
    let field ← checked polarityOf a.fieldPolarity
    let flash ← checked polarityOf a.flashPolarity
    let surge ← checked polarityOf a.surgePolarity
    some { field := field, flash := flash, surge := surge }

/-- SET-STORM's settings are written (R122). -/
def writeStorm (e : Polarities) (a : StormArgs) (s : State) : State :=
  modStorm (fun m =>
    { m with
      fieldPolarity := e.field.getD m.fieldPolarity
      flashPolarity := e.flash.getD m.flashPolarity
      surgePolarity := e.surge.getD m.surgePolarity
      debounceMs := (debounceSetting a).1.getD m.debounceMs
      strikeMs := (strikeSetting a).1.getD m.strikeMs
      stormClearMin := (stormClearSetting a).1.getD m.stormClearMin
      watchClearMin := (watchClearSetting a).1.getD m.watchClearMin }) s

/-- A change of FIELD's polarity starts the debounce on the reversed condition (R112). -/
def followPolarity (before : Polarity) (s : State) : State :=
  if s.storm.fieldPolarity = before then s
  else modStorm (fun m => { m with debounce := some (m.debounceMs * msUs) }) s

/-- SET-STORM at its owner (R122, R112). -/
def ownSetStorm (a : StormArgs) (s : State) : State × Answer :=
  match polarities a with
  | none => (s, bare .badArgument)
  | some e =>
    (followPolarity s.storm.fieldPolarity (writeStorm e a s),
      doneNoting ((debounceSetting a).2 ++ (strikeSetting a).2 ++ (stormClearSetting a).2 ++ (watchClearSetting a).2))

/-! ### The sweep (chapter 8) -/

/-- The sweep an engine has in hand (R157). -/
def currentOf : SweepEngine → Option CurrentSweep
  | .idle => none
  | .pending c => some c
  | .running c => some c
  | .suspended c => some c

/-- A sweep that has just been created (R158). -/
def newSweep (p : Path) : CurrentSweep := { path := p, counts := [], taken := 0, failed := 0 }

/-- The checks of SWEEP after its path value (R158): the first that fails gives the response. -/
def sweepRefusal (s : State) (p : Path) : Option Status :=
  if isParking s then some .busy
  else if stormy s.storm.effective then some .inStorm
  else
    match s.sweep.engine with
    | .running _ => some .sweepActive
    | .pending _ => some .sweepActive
    | .suspended _ => some .sweepSuspended
    | .idle =>
      if pstate s p = .off ∨ pstate s p = .shelter then some .pathNotReady
      else if eligible s p && !otherEligible s p then some .lastPath
      else none

/-- SWEEP at its owner (R158). -/
def ownSweep (path : Byte) (s : State) : State × Answer :=
  match pathOf path with
  | none => (s, bare .badArgument)
  | some p =>
    match sweepRefusal s p with
    | some st => (s, bare st)
    | none =>
      if sweepReady s p then (startSweep (newSweep p) s, bare .accepted)
      else (modSweep (fun w => { w with engine := .pending (newSweep p) }) s, bare .pending)

/-- SUSPEND-SWEEP at its owner (R163). -/
def ownSuspendSweep (s : State) : State × Answer :=
  match s.sweep.engine with
  | .running c => (settle (suspendRaw c s), bare .done)
  | .pending _ => (s, bare .pending)
  | _ => (s, bare .done)

/-- RESUME-SWEEP at its owner (R164). -/
def ownResumeSweep (s : State) : State × Answer :=
  match s.sweep.engine with
  | .suspended c =>
    if stormy s.storm.effective then (s, bare .inStorm)
    else if pstate s c.path ≠ .up then (s, bare .pathNotReady)
    else if !otherEligible s c.path then (s, bare .lastPath)
    else (startSweep c s, bare .accepted)
  | _ => (s, bare .notSuspended)

/-- A sweep in hand ends with outcome ABORTED; a swept path returns to UP first (R165). SWEEP-END is raised ahead of the
TIME-SOURCE of that return (DESIGN CHOICE, assumption log 43). -/
def abortCurrent (byPark : Bool) (s : State) : State :=
  match s.sweep.engine with
  | .idle => s
  | .running c => settle (endSweep .aborted byPark c (setState c.path .up s))
  | .pending c => endSweep .aborted byPark c s
  | .suspended c => endSweep .aborted byPark c s

/-- ABORT-SWEEP at its owner (R165). -/
def ownAbortSweep (s : State) : State × Answer := (abortCurrent false s, bare .done)

/-- The engine's state by its name. -/
def sweepName : SweepEngine → SweepName
  | .idle => .idle
  | .pending _ => .pending
  | .running _ => .running
  | .suspended _ => .suspended

/-- READ-SWEEP's reading of a current sweep (R168): the grade of the step in progress is its number (R160). -/
def sweepReading (c : CurrentSweep) : SweepReading :=
  { path := c.path, step := c.counts.length, taken := c.taken, grade := c.counts.length, counts := c.counts }

/-- READ-SWEEP at its owner (R168). -/
def ownReadSweep (s : State) : State × Answer :=
  (s, reading (.sweep (sweepName s.sweep.engine) ((currentOf s.sweep.engine).map sweepReading) s.sweep.last))

/-- A pending sweep starts when its conditions hold (R159). -/
def startPending (s : State) : State :=
  match s.sweep.engine with
  | .pending c => if sweepReady s c.path then startSweep c s else s
  | _ => s

/-! ### Parking (section 6.5) -/

/-- A wait that begins now: ten superframe starts to its limit, not counting the start of the present superframe when its
work is still to be done (R127, R181). -/
def freshDrain (s : State) : Drain :=
  { left := if atStart s && !s.clock.started then drainLimit + 1 else drainLimit, moved := none }

/-- PARK is taken: PARKING, any sweep aborted, the PARKING message placed (R127). -/
def enterParking (s : State) : State :=
  placeAwaited (.parking s.role (BitVec.ofNat 16 s.holdUp.strikes)) .park
    (abortCurrent true (modStorm (fun m => { m with parking := .parking (freshDrain s) }) s))

/-- PARK at its owner (R127). -/
def ownPark (s : State) : State × Answer :=
  if isParking s || !engineIdle s then (s, bare .busy) else (enterParking s, bare .accepted)

/-- WAKE at its owner (R132). -/
def ownWake (s : State) : State × Answer :=
  match s.storm.parking with
  | .parked => (refreshOff (modStorm (fun m => { m with parking := .onAir }) s), bare .done)
  | .onAir => (s, bare .done)
  | .parking _ => (s, bare .busy)

/-- No transmit queue holds a copy of a stream 0 cell up to the given sequence (R129, R181). -/
def drainedTo (q : Seq) (s : State) : Bool :=
  allPaths.all fun p =>
    (s.disp.queue.get p).all fun c => decide (c.cell.stream ≠ 0) || decide (32768 ≤ seqDist q c.cell.seq)

/-- What was waited for has left the outbox and the queues (R129, R181). The last part of a response, or the
PARKING message, is waited for alone: a message ahead of it that R179 took out of the outbox keeps neither a reset nor a
park waiting (DESIGN CHOICE, assumption log 34). -/
def drained (w : Drain) (s : State) : Bool :=
  match w.moved with
  | none => false
  | some q => drainedTo q s

/-- The limit comes with this superframe start (R127, R181). -/
def atLimit (w : Drain) : Bool := decide (w.left ≤ 1)

/-- The park completes (R129): windows flushed, queues and outbox emptied, a cancel run ended (R142), every path OFF. -/
def completePark (s : State) : State :=
  refreshOff
    (modSwitch (fun w => { w with run := none })
      (modStorm (fun m => { m with parking := .parked })
        (modDisp (fun d => { d with outbox := [] })
          (purgeQueue .w (purgeQueue .b (purgeQueue .a (flushAll .park s)))))))

end Sys2Proof.Machine
end

