-- ==== Sys2Proof/Machine/PlanEdit.lean ====
section
/-! DEFINITION. The stream plan's commands: editing, the claim, pinning, READ-STREAM (chapter 1), and COMMIT and
ABORT-SWITCH (chapter 7). -/

namespace Sys2Proof.Machine

/-! ### Edits (R9 to R13) -/

/-- The rank check of one descriptor (R10): the effective rank is at most the current edit rank, and the new edit rank is
at least the effective rank. -/
def rankAllows (eff : Nat) (current new : Rank) : Bool := decide (eff ≤ current.val) && decide (eff ≤ new.val)

/-- The enumerated settings of a SET-STREAM as values. -/
structure EnumSettings where
  present : Option Bool
  cls : Option StreamClass
  direction : Option Direction
  editRank : Option Rank
  mode : Option DivMode
  preferred : Option (Option Path)
  granularity : Option Granularity
deriving DecidableEq, Repr

/-- The enumerated settings, or none when one of them is undefined or forbidden, or a presence bit names no setting (R9,
R11, section 9.6). -/
def enumSettings (a : StreamArgs) : Option EnumSettings :=
  if a.badPresence then none
  else do
    let present ← checked flagOf a.present
    let cls ← checked editClassOf a.cls
    let direction ← checked editDirectionOf a.direction
    let editRank ← checked rankOf a.editRank
    let mode ← checked modeOf a.mode
    let preferred ← checked preferredOf a.preferred
    let granularity ← checked granularityOf a.granularity
    some
      { present := present, cls := cls, direction := direction, editRank := editRank, mode := mode,
        preferred := preferred, granularity := granularity }

/-- The numeric settings clamped to their ranges (R11). -/
def staggerSetting (a : StreamArgs) : Option Nat × List ClampField :=
  clampSetting .stagger 0 160 (a.stagger.map fun b => b.toNat)

def holdSetting (a : StreamArgs) : Option Nat × List ClampField := clampSetting .hold 4 320 (a.hold.map fun x => x.toNat)

def budgetSetting (a : StreamArgs) : Option Nat × List ClampField :=
  clampSetting .budgetRaw 0 63 (a.budgetRaw.map fun b => b.toNat)

def prioritySetting (a : StreamArgs) : Option Nat × List ClampField :=
  clampSetting .priority 0 3 (a.priority.map fun b => b.toNat)

/-- The clamped-fields note of a SET-STREAM (R11). -/
def streamNote (a : StreamArgs) : List ClampField :=
  (staggerSetting a).2 ++ (holdSetting a).2 ++ (budgetSetting a).2 ++ (prioritySetting a).2

/-- A descriptor with the given settings written and the others kept (R11). -/
def editDescriptor (e : EnumSettings) (a : StreamArgs) (d : Descriptor) : Descriptor :=
  { present := e.present.getD d.present
    cls := e.cls.getD d.cls
    direction := e.direction.getD d.direction
    editRank := e.editRank.getD d.editRank
    mode := e.mode.getD d.mode
    preferred := e.preferred.getD d.preferred
    stagger := (staggerSetting a).1.getD d.stagger
    hold := (holdSetting a).1.getD d.hold
    budgetRaw := (budgetSetting a).1.getD d.budgetRaw
    granularity := e.granularity.getD d.granularity
    priority := (prioritySetting a).1.getD d.priority }

/-- An index that an edit may name: 1 to 31 (R9). -/
def editIndexOf (b : Byte) : Option StreamIx :=
  match streamOf b with
  | some i => if i = 0 then none else some i
  | none => none

/-- A staged descriptor is replaced. -/
def writeStaged (i : StreamIx) (d : Descriptor) (s : State) : State :=
  modPlan (fun p => { p with staged := sset p.staged i d }) s

/-- SET-STREAM at its owner (R9 to R11). -/
def ownSetStream (src : Source) (index : Byte) (a : StreamArgs) (s : State) : State × Answer :=
  if holds s src then
    match editIndexOf index with
    | none => (renew src s, bare .badArgument)
    | some i =>
      match enumSettings a with
      | none => (renew src s, bare .badArgument)
      | some e =>
        if rankAllows (effectiveRank s src) (sget s.plan.staged i).editRank (e.editRank.getD (sget s.plan.staged i).editRank) then
          (writeStaged i (editDescriptor e a (sget s.plan.staged i)) (renew src s), doneNoting (streamNote a))
        else (renew src s, bare .rank)
  else (s, notHolder s)

/-- CLEAR-STREAM at its owner (R9, R10, R12). -/
def ownClearStream (src : Source) (index : Byte) (s : State) : State × Answer :=
  if holds s src then
    match editIndexOf index with
    | none => (renew src s, bare .badArgument)
    | some i =>
      if rankAllows (effectiveRank s src) (sget s.plan.staged i).editRank (sget s.plan.staged i).editRank then
        (writeStaged i { sget s.plan.staged i with present := false } (renew src s), bare .done)
      else (renew src s, bare .rank)
  else (s, notHolder s)

/-- The lowest index at which REVERT fails the rank check (R13). -/
def revertFault (s : State) (src : Source) : Option StreamIx :=
  allStreams.find? fun i =>
    decide (sget s.plan.staged i ≠ sget s.plan.active i) &&
      !rankAllows (effectiveRank s src) (sget s.plan.staged i).editRank (sget s.plan.active i).editRank

/-- REVERT at its owner (R9, R13). -/
def ownRevert (src : Source) (s : State) : State × Answer :=
  if holds s src then
    match revertFault s src with
    | some i => (renew src s, answering .rank (.index i.val))
    | none => (modPlan (fun p => { p with staged := p.active }) (renew src s), bare .done)
  else (s, notHolder s)

/-! ### The claim (R14 to R16) -/

/-- The lapse time of a CLAIM, clamped to 5 to 255 s (R14). -/
def lapseSetting (a : ClaimArgs) : Option Nat × List ClampField :=
  clampSetting .lapse 5 255 (a.lapse.map fun b => b.toNat)

/-- The claim is granted or renewed: the lapse time given is taken and the timer starts (R14). -/
def grantClaim (src : Source) (a : ClaimArgs) (s : State) : State :=
  modPlan (fun p =>
    { p with
      holder := some (requesterOfSource src)
      lapseSecs := (lapseSetting a).1.getD p.lapseSecs
      lapseTimer := some ((lapseSetting a).1.getD p.lapseSecs * secUs) }) s

/-- CLAIM at its owner (R14). An undefined presence bit is found ahead of the engine and the holder, and such a CLAIM of the
holder restarts the lapse timer all the same (DESIGN CHOICE, assumption log 19). -/
def ownClaim (src : Source) (a : ClaimArgs) (s : State) : State × Answer :=
  if a.badPresence then (renew src s, bare .badArgument)
  else if !engineIdle s then (s, bare .busy)
  else
    match s.plan.holder with
    | none => (grantClaim src a s, doneNoting (lapseSetting a).2)
    | some h =>
      if h = requesterOfSource src then (grantClaim src a s, doneNoting (lapseSetting a).2)
      else (s, answering .claimed (.holder (some h)))

/-- RELEASE at its owner (R16). -/
def ownRelease (src : Source) (s : State) : State × Answer :=
  match s.plan.holder with
  | none => (s, notHolder s)
  | some h =>
    if h = requesterOfSource src then (freeClaim s, bare .done)
    else if effectiveRank s src = 0 then (raiseFor h kindClaimLapsed (freeClaim s), bare .done)
    else (s, notHolder s)

/-- The claim lapses (R15). -/
def lapseClaim (s : State) : State :=
  match s.plan.holder with
  | none => s
  | some h => raiseFor h kindClaimLapsed (freeClaim s)

/-! ### Pinning (R20, R21) -/

/-- PIN at its owner. -/
def ownPin (s : State) : State × Answer :=
  if engineIdle s then
    (modHoldUp (fun h => { h with pinned := s.plan.active, pinnedEpoch := s.plan.epoch, pinnedFlag := true }) s, bare .done)
  else (s, bare .busy)

/-- UNPIN at its owner. -/
def ownUnpin (s : State) : State × Answer := (modHoldUp (fun h => { h with pinnedFlag := false }) s, bare .done)

/-! ### READ-STREAM (R8) -/

/-- The descriptor of a copy of the plan. -/
def copyDescriptor (s : State) (c : PlanCopy) (i : StreamIx) : Descriptor :=
  match c with
  | .active => sget s.plan.active i
  | .staged => sget s.plan.staged i
  | .pinned => sget s.holdUp.pinned i

/-- The preferred path as READ-STREAM reports it: under TRIPLE, R1 and R8 differ on a path that is set, and neither is
taken (assumption log 5). -/
def reportedPreferred (d : Descriptor) : Option Path :=
  if d.mode = .triple ∧ Config.triplePreferredReported = false then none else d.preferred

/-- What the copy adds to a READ-STREAM (R8). -/
def copyReading (s : State) (c : PlanCopy) (d : Descriptor) : CopyReading :=
  match c with
  | .active => .active s.plan.epoch (runsOut s.role d.direction) (runsIn s.role d.direction)
  | .staged => .staged s.plan.holder
  | .pinned => .pinned s.holdUp.pinnedEpoch s.holdUp.pinnedFlag

/-- READ-STREAM's body (R8, R1, R2, R3). -/
def streamReading (s : State) (c : PlanCopy) (i : StreamIx) : StreamReading :=
  let d := copyDescriptor s c i
  { present := d.present, cls := d.cls, direction := d.direction, editRank := d.editRank, mode := d.mode,
    preferred := reportedPreferred d, stagger := if staggered d.mode then some d.stagger else none, hold := d.hold,
    budgetRaw := d.budgetRaw, granularity := d.granularity, priority := d.priority, budget := budgetOf d,
    span := if d.present then some (spanOf d) else none, copy := copyReading s c d }

/-- READ-STREAM at its owner (R8). -/
def ownReadStream (index copy : Byte) (s : State) : State × Answer :=
  match streamOf index, copyOf copy with
  | some i, some c => (s, reading (.stream (streamReading s c i)))
  | _, _ => (s, bare .badArgument)

/-! ### COMMIT and ABORT-SWITCH (R138, R139, R151) -/

/-- The lead of a COMMIT, clamped to 20 to 1,000 superframes; 50 when none is given (R138). -/
def leadSetting (a : CommitArgs) : Option Nat × List ClampField :=
  clampSetting .lead 20 1000 (a.lead.map fun x => x.toNat)

/-- The switch superframe that a COMMIT chooses (R138). -/
def leadTarget (a : CommitArgs) (s : State) : SfNum :=
  currentSuperframe s + BitVec.ofNat 16 ((leadSetting a).1.getD 50)

/-- The storm unit, a cancel run or a FREE time-source record at a MAST holds a COMMIT off (R138). -/
def commitBusy (s : State) : Bool :=
  isParking s || s.switch.run.isSome || (decide (s.role = .mast) && decide (s.time.state = .free))

/-- A COMMIT that fails validation: outcome INVALID is recorded; the claim and the staged plan stay (R139). -/
def commitInvalid (r : Reason) (i : Nat) (a : CommitArgs) (s : State) : State :=
  recordOutcome
    { epoch := s.plan.epoch + 1, outcome := .invalid r i, proposer := s.role, n := leadTarget a s } s

/-- A COMMIT that passes: the claim is freed, PROPOSE is placed, the engine is PROPOSING (R138, R17). -/
def commitProposal (a : CommitArgs) (s : State) : State :=
  let e := s.plan.epoch + 1
  let n := leadTarget a s
  modSwitch (fun w =>
      { w with
        engine := .proposing { epoch := e, tag := e, n := n, proposer := s.role }
        sent := bump w.sent })
    (place (.propose s.role (e.setWidth 8) n ((allStreams.drop 1).map fun i => wireOf (sget s.plan.staged i))) (freeClaim s))

/-- COMMIT at its owner (R138). -/
def ownCommit (src : Source) (a : CommitArgs) (s : State) : State × Answer :=
  if a.badPresence then (renew src s, bare .badArgument)
  else if holds s src then
    if commitBusy s then (renew src s, bare .busy)
    else
      match validate s.plan.staged with
      | some (r, i) => (commitInvalid r i a (renew src s), answering .invalid (.verdict r i))
      | none =>
        (commitProposal a s,
          { status := .accepted, note := (leadSetting a).2, body := .proposal (s.plan.epoch + 1) (leadTarget a s) })
  else (s, notHolder s)

/-- The switch in hand of an engine that is not IDLE. -/
def inHand : Engine → Option Pending
  | .idle => none
  | .proposing p => some p
  | .armed p => some p

/-- ABORT-SWITCH at its owner (R151). A NOTICE that SWITCH-FAILED brings joins the outbox ahead of the run's first CANCEL
(DESIGN CHOICE, assumption log 53). -/
def ownAbortSwitch (s : State) : State × Answer :=
  match inHand s.switch.engine with
  | none => (s, bare .done)
  | some p => (startRun p.tag (p.n - 1) (recordOutcome (resultOf p .aborted) s), bare .done)

/-- The engine's state by its name. -/
def engineName : Engine → EngineName
  | .idle => .idle
  | .proposing _ => .proposing
  | .armed _ => .armed

/-- READ-SWITCH's body (R155). -/
def switchReading (s : State) : SwitchReading :=
  { engine := engineName s.switch.engine
    pending := (inHand s.switch.engine).map fun p => (p, remainingTo p.n s)
    run := s.switch.run.map fun r => (r.epoch, r.last)
    last := s.switch.last
    epoch := s.plan.epoch
    refPath := s.switch.refPath
    peerEpoch := s.switch.peerEpoch
    split := s.switch.split
    holds := condHolds s kindEpochSplit }

/-- READ-SWITCH at its owner (R155). -/
def ownReadSwitch (s : State) : State × Answer := (s, reading (.switch (switchReading s)))

end Sys2Proof.Machine
end

