-- ==== Sys2Proof/Machine/Ports.lean ====
section
/-! DEFINITION. The management ports: the checks of R173, response records, ranks, the tunnel's ends, and the readings that
gather more than one block: STATUS, READ-COUNTERS, READ-WINDOW, the event commands (chapters 9 and 10, R41, R111). -/

namespace Sys2Proof.Machine

/-! ### Response records (R171) -/

/-- A record is placed in a port's slot under the next response number; an unfetched one that it replaces is counted
(R171). -/
def placeRecord (p : Port) (r : Record) (s : State) : State :=
  modPort p (fun x =>
    { x with
      number := x.number + 1
      responsesDiscarded := if ready s p then bump x.responsesDiscarded else x.responsesDiscarded
      slot := some ({ r with number := x.number + 1 }, false) }) s

/-- The record of an answer (section 9.3). -/
def recordOf (code : Byte) (a : Answer) : Record :=
  { code := code, status := statusNum a.status, tunnelled := false, repeated := false,
    noted := decide (a.note ≠ []), number := 0, note := a.note, body := a.body }

/-- The record that FETCH gives when none was fetched since the reset (R172). Its flags and its response number are 0 (DESIGN
CHOICE, assumption log 49). -/
def emptyRecord : Record :=
  { code := 0, status := 0, tunnelled := false, repeated := false, noted := false, number := 0, note := [], body := .none }

/-- FETCH (R172). -/
def fetchRecord (p : Port) (s : State) : State :=
  modPort p (fun x =>
    match x.slot with
    | some (r, false) => { x with slot := some (r, true), lastFetched := some r, dataOut := some r }
    | _ =>
      match x.lastFetched with
      | some r => { x with dataOut := some { r with repeated := true } }
      | none => { x with dataOut := some emptyRecord }) s

/-- The byte at a position of what a port's controller clocks out in a FETCH frame: the record's bytes, and zeros beyond its
end (R172). -/
def dataOutByte (x : PortState) (n : Nat) : Byte :=
  match x.dataOut with
  | some r => (recordBytes r).getD n 0
  | none => 0

/-! ### The checks of R173 -/

/-- The rank needed by the commands that any rank may issue (section 9.2): no rank is weaker, whatever byte a
TUNNEL-REQUEST carries. -/
def anyRank : Nat := 255

/-- A port has a tunnel outstanding; PT has none of its own (R173, R177). -/
def tunnelOut (s : State) : Source → Bool
  | .lp p => (s.ports.lp.get p).tunnel.isSome
  | .pt _ _ _ => false

/-- A RESET from LP1 or LP2 (R173). -/
def localReset (code : Byte) : Source → Bool
  | .lp _ => decide (code = 3)
  | .pt _ _ _ => false

/-- The checks of R173 in their order: STATUS has code 2, WAKE 30, RESET 3; `need` is the rank the command needs. -/
def portRefusal (code : Byte) (need : Nat) (src : Source) (s : State) : Option Status :=
  if isParked s ∧ code ≠ 2 ∧ code ≠ 30 then some .parked
  else if tunnelOut s src ∧ code ≠ 2 then some .tunnelPending
  else if s.ports.resetPending.isSome ∧ code ≠ 2 ∧ localReset code src = false then some .busy
  else if need < effectiveRank s src then some .rank
  else none

/-- A command at the port: the answer of the first failed check, or its owner's effect and answer. A command that the port
refuses is not taken by the edit claim's owner, so it does not restart the holder's lapse timer (DESIGN CHOICE,
assumption log 36). -/
def atPort (code : Byte) (need : Nat) (src : Source) (own : State → State × Answer) (s : State) : State × Answer :=
  match portRefusal code need src s with
  | some st => (s, bare st)
  | none => own s

/-! ### Responses through the tunnel (R177) -/

/-- The messages of a record's parts, from the given part number; what waits for the response waits for its last part. -/
def partMessages (role : Role) (port : Port) (tag : Byte) (why : Awaited) : Nat → List (List Byte) → List OutMsg
  | _, [] => []
  | n, [d] => [{ msg := .tunnelResponse role port tag (BitVec.ofNat 8 n) true d, awaited := why }]
  | n, d :: rest =>
    { msg := .tunnelResponse role port tag (BitVec.ofNat 8 n) false d, awaited := .no } ::
      partMessages role port tag why (n + 1) rest

/-- Messages are placed one after another. -/
def placeAll (ms : List OutMsg) (s : State) : State := ms.foldl (fun t m => placeAwaited m.msg m.awaited t) s

/-- The record of an answer to PT: tunnelled, its number byte a free value (assumption log 4). -/
def recordForPt (code : Byte) (a : Answer) (s : State) : Record :=
  { recordOf code a with tunnelled := true, number := Config.ptResponseNumber s.ports.draws }

/-- The parts of a response to PT. -/
def responseParts (farPort : Port) (tag : Byte) (why : Awaited) (code : Byte) (a : Answer) (s : State) : List OutMsg :=
  partMessages s.role farPort tag why 0 (partsOf 5 (recordBytes (recordForPt code a s)))

/-- A response to PT goes ahead of the messages that the command's own work has placed since the outbox held `n` (R177). -/
def respondPt (n : Nat) (parts : List OutMsg) (s : State) : State :=
  let own := s.disp.outbox.drop n
  placeAll own (placeAll parts
    (modDisp (fun d => { d with outbox := d.outbox.take n }) (modPorts (fun x => { x with draws := x.draws + 1 }) s)))

/-- A TUNNEL-REQUEST is executed (R177, R182). -/
def countExecuted (s : State) : State := modPorts (fun x => { x with executed := bump x.executed }) s

/-- A command is taken: one from PT counts as executed (R177), ahead of its own work, so a READ-COUNTERS from PT reads and
clears itself too (DESIGN CHOICE, assumption log 41). -/
def received (src : Source) (s : State) : State :=
  match src with
  | .lp _ => s
  | .pt _ _ _ => countExecuted s

/-- The response of a command: in the port's slot for a local port (R171), in parts for PT (R177). `before` and `after` are
the states around its owner's work. What placing it counts comes behind that work, so a READ-COUNTERS that clears its
group leaves that count standing (DESIGN CHOICE, assumption log 41). -/
def respond (src : Source) (code : Byte) (a : Answer) (before after : State) : State :=
  match src with
  | .lp p => placeRecord p (recordOf code a) after
  | .pt farPort _ tag =>
    respondPt before.disp.outbox.length (responseParts farPort tag .no code a before) after

/-- A command whole: taken, checked, carried out by its owner, answered. -/
def serve (code : Byte) (need : Nat) (src : Source) (own : State → State × Answer) (s : State) : State :=
  respond src code (atPort code need src own (received src s)).2 (received src s)
    (atPort code need src own (received src s)).1

/-! ### SET-RANK (R174) -/

/-- Some requester is at rank 0. -/
def someRankZero (ranks : PerReq Rank) : Bool :=
  decide (ranks.lp1 = 0) || decide (ranks.lp2 = 0) || decide (ranks.pt = 0)

/-- SET-RANK at its owner. -/
def ownSetRank (requester rank : Byte) (s : State) : State × Answer :=
  match requesterOf requester, rankOf rank with
  | some r, some k =>
    if someRankZero (s.ports.ranks.set r k) then
      (modPorts (fun x => { x with ranks := x.ranks.set r k }) s, bare .done)
    else (s, bare .lastRankZero)
  | _, _ => (s, bare .badArgument)

/-! ### STATUS (R175, R135, R185) -/

def parkName : Parking → ParkName
  | .onAir => .onAir
  | .parking _ => .parking
  | .parked => .parked

/-- The storm unit's part of STATUS (R135). -/
def stormReading (s : State) : StormReading :=
  let m := s.storm
  { own := m.own, peer := m.peer, effective := m.effective, fieldTaken := m.fieldTaken, debounce := m.debounce,
    strikeTimer := m.strikeTimer, stormTimer := m.stormTimer, watchTimer := m.watchTimer, forgetTimer := m.forgetTimer,
    parking := parkName m.parking, peerParked := m.peerParked, peerParking := m.peerParking, strikes := s.holdUp.strikes,
    cause := s.holdUp.cause }

/-- The event part of STATUS (R185). -/
def eventReading (s : State) (src : Source) : EventReading :=
  let r := requesterOfSource src
  { set := s.ev.sets.get r, enables := s.ev.enables.get r, both := bothSets s.ev r, holds := s.ev.holds,
    attention := match src with | .lp p => some (attention s p) | .pt _ _ _ => none }

/-- STATUS's body (R175); for PT the tunnel slot is none. -/
def statusReading (s : State) (src : Source) : StatusReading :=
  { role := s.role, cause := s.holdUp.cause, ranks := s.ports.ranks, holder := s.plan.holder,
    engine := engineName s.switch.engine, epoch := s.plan.epoch, sweep := sweepName s.sweep.engine,
    paths := PerPath.of (pstate s), power := s.radio.mode, timeState := s.time.state,
    resetPending := s.ports.resetPending.isSome,
    tunnel := match src with
      | .lp p => ((s.ports.lp.get p).tunnel).map fun t => (t.tag, t.timeout)
      | .pt _ _ _ => none
    storm := stormReading s, events := eventReading s src }

/-- STATUS at its owner (R175). -/
def ownStatus (src : Source) (s : State) : State × Answer := (s, reading (.status (statusReading s src)))

/-! ### Events (R185, R186) -/

/-- A set of kinds, or none when a bit names no event kind (section 9.6). -/
def kindsOf (x : BitVec 32) : Option KindSet := if x &&& 0xFF000000#32 = 0#32 then some (x.setWidth 24) else none

/-- The five condition kinds (R184). -/
def conditionKinds : KindSet := kindPathDegraded ||| kindInStorm ||| kindHoldShort ||| kindEpochSplit ||| kindPeerParked

/-- READ-EVENTS at its owner (R185). -/
def ownReadEvents (src : Source) (s : State) : State × Answer :=
  let r := requesterOfSource src
  (s, reading (.events (s.ev.sets.get r) (s.ev.enables.get r) (bothSets s.ev r) s.ev.holds s.ev.peerNotice))

/-- The named kinds that a CLEAR-EVENTS leaves: condition kinds of the set whose condition holds (R184, R185). -/
def staying (s : State) (r : Requester) (k : KindSet) : KindSet := s.ev.sets.get r &&& k &&& s.ev.holds &&& conditionKinds

/-- The event set after a CLEAR-EVENTS (R185). -/
def cleared (s : State) (r : Requester) (k : KindSet) : KindSet := (s.ev.sets.get r &&& ~~~k) ||| staying s r k

/-- CLEAR-EVENTS at its owner (R185). -/
def ownClearEvents (src : Source) (kinds : BitVec 32) (s : State) : State × Answer :=
  let r := requesterOfSource src
  match kindsOf kinds with
  | none => (s, bare .badArgument)
  | some k =>
    (changeEvents (fun e => { e with sets := e.sets.set r (cleared s r k) }) s,
      reading (.cleared (cleared s r k) (staying s r k)))

/-- SET-ENABLES at its owner (R186). -/
def ownSetEnables (src : Source) (kinds : BitVec 32) (s : State) : State × Answer :=
  match kindsOf kinds with
  | none => (s, bare .badArgument)
  | some k => (changeEvents (fun e => { e with enables := e.enables.set (requesterOfSource src) k }) s, bare .done)

/-! ### READ-COUNTERS (R41, R57, R82, R110, R135, R156, R182) -/

/-- The counters of a table kept per stream, in index order. -/
def perStreamList (t : PerStream Nat) : List Nat := t.toList

/-- The values of a table kept per path, in the order A, B, W. -/
def perPathList {α β : Type} (t : PerPath α) (f : α → List β) : List β := f t.a ++ f t.b ++ f t.w

def dispatchCounters (s : State) : List Nat :=
  let d := s.disp
  perStreamList d.ingressRefused ++ perStreamList d.overBudget ++ perStreamList d.diversityReduced ++
    perStreamList d.noPath ++ perPathList d.queueFull (fun n => [n]) ++ perPathList d.expired (fun n => [n]) ++
    perPathList d.purged (fun n => [n]) ++ [d.outboxFull]

/-- The readings of the dispatch group that are not cleared (R41). -/
def dispatchReadings (s : State) : List Field :=
  let d := s.disp
  (d.nextSeq.toList.flatMap fun q => fld 2 q.toNat) ++ (d.budget.toList.flatMap fun n => fld 1 n) ++
    fld 1 d.outbox.length ++ perPathList d.queue (fun q => fld 2 q.length)

def framingCounters (s : State) : List Nat :=
  perPathList s.framer fun f => [f.blocksClean, f.blocksCorrected, f.blocksFailed, f.headerFailures, f.ownRoleHeaders]

/-- The supervision group, row by row of its table (R82). -/
def supervisionCounters (s : State) : List Nat :=
  perPathList s.sup (fun v => [v.probDiscards]) ++ perPathList s.sup (fun v => [v.alignLosses]) ++
    perPathList s.sup (fun v => [v.samplesDiscarded]) ++ [s.time.coincident, s.time.clamped]

/-- The rows of the table of section 5.6 kept per stream (R109). -/
def streamRows : List (StreamCounts → Nat) :=
  [(·.released), (·.gapCells), (·.duplicates), (·.upgrades), (·.late), (·.early), (·.stale), (·.strays), (·.resyncs),
    (·.flushed)]

/-- The rows of R110's table, kept per path. -/
def arrivalRows : List (ArrivalCounts → Nat) :=
  [(·.first), (·.upgrades), (·.duplicates), (·.late), (·.unplanned), (·.unaligned)]

/-- The rejoin group, row by row of its tables (R109, R110). -/
def rejoinCounters (s : State) : List Nat :=
  streamRows.flatMap (fun row => s.rejoin.counts.toList.map row) ++
    arrivalRows.flatMap (fun row => perPathList s.rejoin.arrivals fun c => [row c]) ++ [s.rejoin.unknownMessages]

/-- The storm group, row by row of its table: edges taken of FLASH and SURGE, edges ignored of both, and so on (R135). -/
def stormCounters (s : State) : List Nat :=
  let m := s.storm
  [m.flashTaken, m.surgeTaken, m.flashIgnored, m.surgeIgnored, m.fieldAssertions] ++ perPathList m.shelters (fun n => [n]) ++
    perPathList m.lastPathKept (fun n => [n]) ++ [m.peerForgets]

/-- The readings of the storm group: the strike counter, which is not cleared, and the last reset cause (R135). -/
def stormReadings (s : State) : List Field := fld 2 s.holdUp.strikes ++ fld 1 (causeNum s.holdUp.cause)

def switchCounters (s : State) : List Nat :=
  let w := s.switch
  [w.sent, w.taken, w.declined, w.cancels, w.lateCancels, w.strayAnswers]

/-- The rows of R182's table that are kept per port. -/
def portRows : List (PortState → Nat) :=
  [(·.framesDiscarded), (·.unknownCommands), (·.responsesDiscarded), (·.tunnelsSent), (·.tunnelTimeouts), (·.lateResponses)]

/-- The ports group, row by row of its table (R182). -/
def portCounters (s : State) : List Nat :=
  portRows.flatMap (fun row => [row s.ports.lp.lp1, row s.ports.lp.lp2]) ++ [s.ports.executed]

/-- A group's counters and its other readings. -/
def groupReading (s : State) : CounterGroup → Body
  | .dispatch => .counters (dispatchCounters s) (dispatchReadings s)
  | .framing => .counters (framingCounters s) []
  | .supervision => .counters (supervisionCounters s) []
  | .rejoin => .counters (rejoinCounters s) []
  | .storm => .counters (stormCounters s) (stormReadings s)
  | .switch => .counters (switchCounters s) []
  | .ports => .counters (portCounters s) []

def clearDispatch (s : State) : State :=
  modDisp (fun d =>
    { d with
      ingressRefused := sall 0, overBudget := sall 0, diversityReduced := sall 0, noPath := sall 0,
      queueFull := ⟨0, 0, 0⟩, expired := ⟨0, 0, 0⟩, purged := ⟨0, 0, 0⟩, outboxFull := 0 }) s

def clearFramer (f : Framer) : Framer :=
  { f with blocksClean := 0, blocksCorrected := 0, blocksFailed := 0, headerFailures := 0, ownRoleHeaders := 0 }

def clearFraming (s : State) : State :=
  modFramer .w clearFramer (modFramer .b clearFramer (modFramer .a clearFramer s))

def clearSupervisor (v : Supervisor) : Supervisor := { v with probDiscards := 0, alignLosses := 0, samplesDiscarded := 0 }

def clearSupervision (s : State) : State :=
  modTime (fun t => { t with coincident := 0, clamped := 0 })
    (modSup .w clearSupervisor (modSup .b clearSupervisor (modSup .a clearSupervisor s)))

def clearRejoin (s : State) : State :=
  modRejoin (fun r =>
    { r with counts := sall zeroCounts, arrivals := ⟨zeroArrivals, zeroArrivals, zeroArrivals⟩, unknownMessages := 0 }) s

def clearStorm (s : State) : State :=
  modStorm (fun m =>
    { m with
      flashTaken := 0, flashIgnored := 0, surgeTaken := 0, surgeIgnored := 0, fieldAssertions := 0,
      shelters := ⟨0, 0, 0⟩, lastPathKept := ⟨0, 0, 0⟩, peerForgets := 0 }) s

def clearSwitch (s : State) : State :=
  modSwitch (fun w =>
    { w with sent := 0, taken := 0, declined := 0, cancels := 0, lateCancels := 0, strayAnswers := 0 }) s

def clearPort (x : PortState) : PortState :=
  { x with
    framesDiscarded := 0, unknownCommands := 0, responsesDiscarded := 0, tunnelsSent := 0, tunnelTimeouts := 0,
    lateResponses := 0 }

def clearPorts (s : State) : State :=
  modPort .lp2 clearPort (modPort .lp1 clearPort (modPorts (fun x => { x with executed := 0 }) s))

/-- The clear option sets every counter of the group to 0 (R41). -/
def clearGroup (s : State) : CounterGroup → State
  | .dispatch => clearDispatch s
  | .framing => clearFraming s
  | .supervision => clearSupervision s
  | .rejoin => clearRejoin s
  | .storm => clearStorm s
  | .switch => clearSwitch s
  | .ports => clearPorts s

/-- READ-COUNTERS at its owner (R41): the clear option, when it is not given, is 0. The reading and the clear come ahead of
what placing the command's own response counts: an unfetched record that it replaces (R171), parts that a full outbox
discards (R32) (DESIGN CHOICE, assumption log 41). -/
def ownReadCounters (a : CounterArgs) (s : State) : State × Answer :=
  if a.badPresence then (s, bare .badArgument)
  else
    match groupOf a.group, checked flagOf a.clear with
    | some g, some c => (if c = some true then clearGroup s g else s, reading (groupReading s g))
    | _, _ => (s, bare .badArgument)

/-! ### READ-WINDOW (R111) -/

/-- A HELD slot's part of its slot record. -/
def heldReading (s : State) (i : StreamIx) (h : Held) : HeldReading :=
  { seq := h.cell.seq, path := h.path, copyIndex := h.cell.copyIndex, quality := h.quality, arrival := h.arrival,
    origin := h.cell.origin, release := releaseTime s i h.cell.origin }

/-- The slot record of the position of a sequence. -/
def slotReading (s : State) (i : StreamIx) (w : Window) (q : Seq) : SlotReading :=
  { seq := q, slot := q.toNat % w.span, place := placeOf w q,
    held := (s.rejoin.store.read (placeOf w q)).map (heldReading s i) }

/-- READ-WINDOW's body. -/
def windowReading (s : State) (i : StreamIx) (w : Window) (start : Seq) (count : Nat) : WindowReading :=
  { anchored := w.anchored, nr := w.nr, originMark := w.originMark, strayRun := w.strayRun, span := w.span,
    offset := w.offset, heldCells := (heldIn s w).length,
    next := match w.next, lowestHeld s w with | some t, some h => some (t, h.cell.seq) | _, _ => none
    slots := (List.range count).map fun k => slotReading s i w (start + BitVec.ofNat 16 k) }

/-- The count of a READ-WINDOW, clamped to 1 to 16. -/
def countSetting (count : Byte) : Nat × List ClampField :=
  (clampTo 1 16 count.toNat, if clampTo 1 16 count.toNat = count.toNat then [] else [.count])

/-- READ-WINDOW at its owner (R111). -/
def ownReadWindow (index : Byte) (start : Seq) (count : Byte) (s : State) : State × Answer :=
  match streamOf index with
  | none => (s, bare .badArgument)
  | some i =>
    match windowOf s i with
    | none => (s, bare .badArgument)
    | some w =>
      (s, { status := .done, note := (countSetting count).2, body := .window (windowReading s i w start (countSetting count).1) })

/-! ### TUNNEL (R176) -/

/-- The check of an inner frame: the status that refuses it, or none (R176). A TUNNEL whose inner length is 0 or 225 to 255
passes R170's length check and is judged here (DESIGN CHOICE, assumption log 40). -/
def innerRefusal (inner : List Byte) : Option Status :=
  match parseFrame inner with
  | .unknown _ => some .unknownCommand
  | .request .fetch => some .badArgument
  | .request (.tunnel _) => some .badArgument
  | .request _ => if inner.length ≤ 224 then none else some .badArgument
  | .discarded => some .badArgument
  | .ignored => some .badArgument

/-- A port counts an unknown command (R170, R176). -/
def countUnknown (p : Port) (s : State) : State := modPort p (fun x => { x with unknownCommands := bump x.unknownCommands }) s

/-- The TUNNEL-REQUEST of a TUNNEL taken on a port (R176). -/
def tunnelMessage (s : State) (p : Port) (inner : List Byte) : Message :=
  .tunnelRequest s.role p (BitVec.ofNat 8 (s.ports.ranks.get (requesterOfPort p)).val) (s.ports.lp.get p).tag inner

/-- A TUNNEL that passes (R176): the request is placed, an unfetched record discarded, the tunnel slot opened. -/
def openTunnel (p : Port) (inner : List Byte) (s : State) : State :=
  modPort p (fun x =>
    { x with
      responsesDiscarded := if ready s p then bump x.responsesDiscarded else x.responsesDiscarded
      slot := if ready s p then none else x.slot
      tunnel := some { tag := x.tag, timeout := tunnelUs, parts := [], lastPart := none }
      tag := x.tag + 1
      tunnelsSent := bump x.tunnelsSent })
    (place (tunnelMessage s p inner) s)

/-- TUNNEL taken on a port (R176): no response when it passes. -/
def takeTunnel (p : Port) (inner : List Byte) (s : State) : State :=
  match portRefusal 23 anyRank (.lp p) s with
  | some st => placeRecord p (recordOf 23 (bare st)) s
  | none =>
    match innerRefusal inner with
    | some .unknownCommand => placeRecord p (recordOf 23 (bare .unknownCommand)) (countUnknown p s)
    | some st => placeRecord p (recordOf 23 (bare st)) s
    | none => openTunnel p inner s

/-- Messages other than the TUNNEL-REQUEST of a port's tag. -/
def notRequestOf (p : Port) (tag : Byte) (m : OutMsg) : Bool :=
  match m.msg with
  | .tunnelRequest _ q _ t _ => !(decide (q = p) && decide (t = tag))
  | _ => true

/-- The record of a tunnel that timed out (R179). -/
def timeoutRecord : Record := { recordOf 23 (bare .tunnelTimeout) with tunnelled := true }

/-- A tunnel's timeout expires (R179). A TUNNEL-REQUEST that it takes out of the outbox is waited for no more by a pending
reset or a park behind it (DESIGN CHOICE, assumption log 34). -/
def expireTunnel (p : Port) (t : Tunnel) (s : State) : State :=
  modDisp (fun d => { d with outbox := d.outbox.filter (notRequestOf p t.tag) })
    (placeRecord p timeoutRecord
      (modPort p (fun x => { x with tunnel := none, tunnelTimeouts := bump x.tunnelTimeouts }) s))

/-! ### TUNNEL-RESPONSE (R178) -/

/-- A part joins the parts kept, whatever its number: of a number kept twice the first counts, and a later last mark
replaces an earlier one (DESIGN CHOICE, assumption log 42). -/
def keepPart (n : Nat) (last : Bool) (d : List Byte) (t : Tunnel) : Tunnel :=
  { t with parts := t.parts ++ [(n, d)], lastPart := if last then some n else t.lastPart }

/-- The bytes of a part that was kept. -/
def partBytes (t : Tunnel) (n : Nat) : Option (List Byte) := (t.parts.find? fun e => decide (e.1 = n)).map Prod.snd

/-- The bytes of parts 0 up to the given one, when every one of them was kept. -/
def joinedTo (t : Tunnel) : Nat → Option (List Byte)
  | 0 => partBytes t 0
  | n + 1 =>
    match joinedTo t n, partBytes t (n + 1) with
    | some a, some b => some (a ++ b)
    | _, _ => none

/-- The bytes of a complete response (R178). -/
def joinedParts (t : Tunnel) : Option (List Byte) := t.lastPart.bind (joinedTo t)

/-- A part that matches its port's tunnel is kept; the last one missing completes the record (R178). -/
def takePart (p : Port) (t : Tunnel) (s : State) : State :=
  match joinedParts t with
  | some bs => placeRecord p (recordOfBytes bs) (modPort p (fun x => { x with tunnel := none }) s)
  | none => modPort p (fun x => { x with tunnel := some t }) s

/-- A part that finds no matching tunnel (R178). -/
def lateResponse (p : Port) (s : State) : State := modPort p (fun x => { x with lateResponses := bump x.lateResponses }) s

/-- A TUNNEL-RESPONSE is taken (R178). -/
def takeResponse (p : Port) (tag part : Byte) (last : Bool) (d : List Byte) (s : State) : State :=
  match (s.ports.lp.get p).tunnel with
  | none => lateResponse p s
  | some t => if t.tag = tag then takePart p (keepPart part.toNat last d t) s else lateResponse p s

end Sys2Proof.Machine
end

