-- ==== Sys2Proof/Machine/Commands.lean ====
section
/-! DEFINITION. The 34 commands whole: each from its frame on a local port, or from a TUNNEL-REQUEST executed for PT, to its
response (section 9.2's rank table, R173, R177), and the resets (R22, R133, R180, R181). -/

namespace Sys2Proof.Machine

/-! ### Resets -/

/-- The clock that a brownout or soft reset leaves: link time goes on, a correction being spread is dropped (R77). The
first superframe starts after the reset, not at its instant (R58, assumption log 1). -/
def keptClock (c : Clock) : Clock := { c with slew := none, owed := 0, rolled := true, started := true }

/-- A brownout, soft or soft-remote reset: the hold-up domain is kept but for its cause (R133). -/
def resetKeeping (cause : ResetCause) (roleLine : Role) (s : State) : State :=
  State.afterReset s.pending roleLine s.fieldLine (keptClock s.clock) { s.holdUp with cause := cause } s.ports.draws
    s.choices s.out

/-- A power-on reset: the hold-up domain is cleared (R133), link time starts at 0 (R77). -/
def resetPowerOn (roleLine : Role) (s : State) : State :=
  State.afterReset s.pending roleLine s.fieldLine powerOnClock clearedHoldUp s.ports.draws s.choices s.out

/-- RESET from PT at its owner: answered DONE, with a reset pending (R181). -/
def markReset (s : State) : State := modPorts (fun x => { x with resetPending := some (freshDrain s) }) s

/-! ### The commands -/

def runFetch (p : Port) (s : State) : State := fetchRecord p s

def runStatus (src : Source) (s : State) : State := serve 2 anyRank src (ownStatus src) s

/-- RESET (R180, R181): from a local port at once, without a response; from PT the response is what the reset waits for. -/
def runReset (src : Source) (s : State) : State :=
  match portRefusal 3 0 src s, src with
  | some st, _ => respond src 3 (bare st) (received src s) (received src s)
  | none, .lp _ => resetKeeping .soft s.roleLine s
  | none, .pt farPort _ tag =>
    respondPt s.disp.outbox.length (responseParts farPort tag .reset 3 (bare .done) (countExecuted s))
      (markReset (countExecuted s))

def runSetRank (src : Source) (requester rank : Byte) (s : State) : State := serve 4 0 src (ownSetRank requester rank) s

def runPin (src : Source) (s : State) : State := serve 5 0 src ownPin s

def runUnpin (src : Source) (s : State) : State := serve 6 0 src ownUnpin s

def runClaim (src : Source) (a : ClaimArgs) (s : State) : State := serve 7 2 src (ownClaim src a) s

def runRelease (src : Source) (s : State) : State := serve 8 2 src (ownRelease src) s

def runSetStream (src : Source) (i : Byte) (a : StreamArgs) (s : State) : State := serve 9 2 src (ownSetStream src i a) s

def runClearStream (src : Source) (i : Byte) (s : State) : State := serve 10 2 src (ownClearStream src i) s

def runRevert (src : Source) (s : State) : State := serve 11 2 src (ownRevert src) s

def runCommit (src : Source) (a : CommitArgs) (s : State) : State := serve 12 2 src (ownCommit src a) s

def runAbortSwitch (src : Source) (s : State) : State := serve 13 2 src ownAbortSwitch s

def runReadStream (src : Source) (i c : Byte) (s : State) : State := serve 14 anyRank src (ownReadStream i c) s

def runReadWindow (src : Source) (i : Byte) (start : Seq) (c : Byte) (s : State) : State :=
  serve 15 anyRank src (ownReadWindow i start c) s

def runReadPath (src : Source) (p : Byte) (s : State) : State := serve 16 anyRank src (ownReadPath p) s

def runReadCounters (src : Source) (a : CounterArgs) (s : State) : State := serve 17 anyRank src (ownReadCounters a) s

def runReadEvents (src : Source) (s : State) : State := serve 18 anyRank src (ownReadEvents src) s

def runClearEvents (src : Source) (k : BitVec 32) (s : State) : State := serve 19 anyRank src (ownClearEvents src k) s

def runSetEnables (src : Source) (k : BitVec 32) (s : State) : State := serve 20 anyRank src (ownSetEnables src k) s

def runReadSweep (src : Source) (s : State) : State := serve 21 anyRank src ownReadSweep s

def runReadSwitch (src : Source) (s : State) : State := serve 22 anyRank src ownReadSwitch s

/-- TUNNEL (R176): from PT it is answered BAD-ARGUMENT. -/
def runTunnel (src : Source) (inner : List Byte) (s : State) : State :=
  match src with
  | .lp p => takeTunnel p inner s
  | .pt _ _ _ => serve 23 anyRank src (fun t => (t, bare .badArgument)) s

def runPathEnable (src : Source) (p v : Byte) (s : State) : State := serve 24 1 src (ownPathEnable p v) s

def runSetPath (src : Source) (a : PathArgs) (s : State) : State := serve 25 1 src (ownSetPath a) s

def runSetRadioTimers (src : Source) (a : RadioArgs) (s : State) : State := serve 26 1 src (ownSetRadioTimers a) s

def runWakeRadio (src : Source) (s : State) : State := serve 27 1 src ownWakeRadio s

def runSetStorm (src : Source) (a : StormArgs) (s : State) : State := serve 28 1 src (ownSetStorm a) s

def runPark (src : Source) (s : State) : State := serve 29 1 src ownPark s

def runWake (src : Source) (s : State) : State := serve 30 1 src ownWake s

def runSweep (src : Source) (p : Byte) (s : State) : State := serve 31 1 src (ownSweep p) s

def runSuspendSweep (src : Source) (s : State) : State := serve 32 1 src ownSuspendSweep s

def runResumeSweep (src : Source) (s : State) : State := serve 33 1 src ownResumeSweep s

def runAbortSweep (src : Source) (s : State) : State := serve 34 1 src ownAbortSweep s

/-- A response that no check of R173 precedes: to an inner frame that is no command here. -/
def respondBare (src : Source) (code : Byte) (st : Status) (s : State) : State :=
  respond src code (bare st) (received src s) (received src s)

/-- A FETCH as an inner frame: no conforming terminal sends one (R176); it is answered as R176 answers it (assumption log
12). -/
def refuseInner (src : Source) (s : State) : State := respondBare src 1 .badArgument s

/-- The command that an inner frame is, executed for PT (R177). -/
def runRequest (src : Source) (r : Request) (s : State) : State :=
  match r with
  | .fetch => refuseInner src s
  | .status => runStatus src s
  | .reset => runReset src s
  | .setRank q k => runSetRank src q k s
  | .pin => runPin src s
  | .unpin => runUnpin src s
  | .claim a => runClaim src a s
  | .release => runRelease src s
  | .setStream i a => runSetStream src i a s
  | .clearStream i => runClearStream src i s
  | .revert => runRevert src s
  | .commit a => runCommit src a s
  | .abortSwitch => runAbortSwitch src s
  | .readStream i c => runReadStream src i c s
  | .readWindow i st c => runReadWindow src i st c s
  | .readPath p => runReadPath src p s
  | .readCounters a => runReadCounters src a s
  | .readEvents => runReadEvents src s
  | .clearEvents k => runClearEvents src k s
  | .setEnables k => runSetEnables src k s
  | .readSweep => runReadSweep src s
  | .readSwitch => runReadSwitch src s
  | .tunnel inner => runTunnel src inner s
  | .pathEnable p v => runPathEnable src p v s
  | .setPath a => runSetPath src a s
  | .setRadioTimers a => runSetRadioTimers src a s
  | .wakeRadio => runWakeRadio src s
  | .setStorm a => runSetStorm src a s
  | .park => runPark src s
  | .wake => runWake src s
  | .sweep p => runSweep src p s
  | .suspendSweep => runSuspendSweep src s
  | .resumeSweep => runResumeSweep src s
  | .abortSweep => runAbortSweep src s

/-- An inner frame is executed as a command from PT (R177). A code that names no command is answered UNKNOWN-COMMAND (R170).
One of the wrong length is no command: it is discarded without
a response (R170, assumption log 12). -/
def runInner (port : Port) (rank tag : Byte) (inner : List Byte) (s : State) : State :=
  match parseFrame inner with
  | .request r => runRequest (.pt port rank tag) r s
  | .unknown code => respondBare (.pt port rank tag) code .unknownCommand s
  | .discarded => s
  | .ignored => s

end Sys2Proof.Machine
end

