-- ==== Sys2Proof/Machine/Delivery.lean ====
section
/-! DEFINITION. The delivery of system messages (R108), the release event (R97 to R99), and what happens at a superframe
start (R24, R37, R43, R54, R141, R142, R148, R129, R181). -/

namespace Sys2Proof.Machine

/-! ### Delivery of stream 0 (R108) -/

/-- A message that reaches no owner is discarded and counted (R108, R131, R137, R176, R187). -/
def unknownMessage (s : State) : State := modRejoin (fun r => { r with unknownMessages := bump r.unknownMessages }) s

/-- The event unit takes a NOTICE (R187): bits that name no kind are dropped. -/
def takeNotice (k : BitVec 32) (s : State) : State :=
  raise kindPeerAttention (modEvents (fun e => { e with peerNotice := some (k.setWidth 24) }) s)

/-- The storm unit takes a PARKING message (R131). -/
def takeParking (strikes : BitVec 16) (s : State) : State := modStorm (fun m => { m with peerParking := some strikes.toNat }) s

/-- A message is handed to the block that owns its kind (R108). -/
def deliver (m : Message) (s : State) : State :=
  match m with
  | .propose r e n ds => takePropose (epochOf e) n r ds s
  | .accept _ e => takeAccept (epochOf e) s
  | .decline _ e why v i => takeDecline (epochOf e) why v i.toNat s
  | .cancel _ e => takeCancel (epochOf e) s
  | .tunnelRequest _ p k t inner => runInner p k t inner s
  | .tunnelResponse _ p t n last d => takeResponse p t n last d s
  | .notice _ k => takeNotice k s
  | .parking _ n => takeParking n s

/-- The payload of a released stream 0 cell is read and handed on; a message of undefined kind, or of this terminal's own
role, is discarded (R108, R131). -/
def deliverPayload (payload : List Byte) (s : State) : State :=
  match messageOf payload with
  | none => unknownMessage s
  | some m => if messageRole m = s.role then unknownMessage s else deliver m s

/-! ### The release event -/

/-- One cell of a stream is released: to egress, or for stream 0 to the terminal's blocks (R97, R98, R108). A message of
stream 0 is handed on when its slot is EMPTY, NR, the counters and the next release event are set, so that a command in it
reads them so (DESIGN CHOICE, assumption log 52). -/
def releaseOne (i : StreamIx) (w : Window) (h : Held) (s : State) : State :=
  if i = 0 then deliverPayload h.cell.payload (afterLowest i (vacate i w h (declareGap i w h s)))
  else releaseCell i w h s

/-- The release event of a stream; without one nothing happens. -/
def releaseAt (i : StreamIx) (s : State) : State :=
  match releaseDue s i with
  | some (w, h) => releaseOne i w h s
  | none => s

/-! ### Superframe starts -/

/-- The start of a superframe has come and its work is not done. -/
def boundary (s : State) : Bool := atStart s && !s.clock.started

/-- SWITCH_DEADLINE, where it is due (R141). -/
def deadlineStep (s : State) : State :=
  if boundary s then (match deadlineDue s with | some p => meetDeadline p s | none => s) else s

/-- PLAN_SWITCH, where it is due (R148). -/
def switchStep (s : State) : State :=
  if boundary s then (match switchDue s with | some p => makeSwitch p s | none => s) else s

/-- Before dispatch accepts a cell at the start of a superframe, a switch that is due has made the new plan active and the
budget counts are 0: cells accepted from the first instant of the switch superframe go under the new plan (R24, R148). -/
def beginAccept (s : State) : State := rollover (switchStep s)

/-- A pending reset whose response has drained is due (R181). -/
def resetDrained (s : State) : Bool :=
  boundary s && match s.ports.resetPending with | some w => drained w s | none => false

/-- A pending reset is due at its limit (R181). -/
def resetAtLimit (s : State) : Bool :=
  boundary s && match s.ports.resetPending with | some w => atLimit w | none => false

/-- RESET_PENDING_DRAINED, where it is due (R181). -/
def resetDrainedStep (s : State) : State := if resetDrained s then resetKeeping .softRemote s.roleLine s else s

/-- RESET_PENDING_LIMIT, where it is due (R181). -/
def resetLimitStep (s : State) : State := if resetAtLimit s then resetKeeping .softRemote s.roleLine s else s

/-- A park whose message has drained is due (R129). -/
def parkDrained (s : State) : Bool :=
  boundary s && match s.storm.parking with | .parking w => drained w s | _ => false

/-- A park is due at its limit (R129). -/
def parkAtLimit (s : State) : Bool :=
  boundary s && match s.storm.parking with | .parking w => atLimit w | _ => false

/-- PARK_COMPLETE, where it is due (R129). -/
def parkDrainedStep (s : State) : State := if parkDrained s then completePark s else s

/-- PARKING_LIMIT, where it is due (R129). -/
def parkLimitStep (s : State) : State := if parkAtLimit s then completePark s else s

/-- A superframe start takes one from a wait (R127, R181). -/
def Drain.less (w : Drain) : Drain := { w with left := w.left - 1 }

/-- The waits of a park and of a pending reset after a superframe start that met neither limit. -/
def countStart (s : State) : State :=
  modPorts (fun x => { x with resetPending := x.resetPending.map Drain.less })
    (modStorm (fun m => { m with parking := match m.parking with | .parking w => .parking w.less | x => x }) s)

/-- What every superframe start does itself: budget counts, expiry of queued copies, the cancel run, the paths'
transmitting halves (R24, R37, R142, R43, R54). -/
def superframeWork (s : State) : State :=
  startSuperframe .w (startSuperframe .b (startSuperframe .a
    (stepRun (expireQueue .w (expireQueue .b (expireQueue .a (rollover s)))))))

/-- What is due at the start besides, before the headers are built, in the model's order (assumption log 1). -/
def dueAtStart (s : State) : State :=
  parkLimitStep (parkDrainedStep (resetLimitStep (resetDrainedStep (switchStep (deadlineStep s)))))

/-- The start of a superframe, done once (R43): anything still due at it comes first. A reset that follows at it leaves
the next start to be the first (R58). -/
def startOfSuperframe (s : State) : State :=
  if boundary s then
    (if boundary (dueAtStart s) then
      modClock (fun c => { c with started := true }) (countStart (superframeWork (dueAtStart s)))
    else dueAtStart s)
  else s

end Sys2Proof.Machine
end

