-- ==== Sys2Proof/Machine/Timers.lean ====
section
/-! DEFINITION. The timers and lines: what each expiry, edge and change does, and the passing of time (chapters 1, 4, 6, 9;
assumption log 1). A timer has expired when none of its time is left. -/

namespace Sys2Proof.Machine

/-! ### Expiries -/

/-- A timer has run out. -/
def expired (t : Option Nat) : Bool := decide (t = some 0)

/-- CLAIM_LAPSE (R15). -/
def lapseStep (s : State) : State := if expired s.plan.lapseTimer then lapseClaim s else s

/-- IDLE_TIMER_EXPIRY (R70). -/
def idleStep (s : State) : State :=
  if expired s.radio.idleTimer then startStandby (setMode .idle (modRadio (fun r => { r with idleTimer := none }) s))
  else s

/-- STANDBY_TIMER_EXPIRY (R71). RADIO-POWER is raised ahead of what W's entry to OFF brings, TIME-SOURCE, PATH-DEGRADED and
HOLD-SHORT among it (DESIGN CHOICE, assumption log 43). -/
def standbyStep (s : State) : State :=
  if expired s.radio.standbyTimer then
    refreshOff (setMode .standby (modRadio (fun r => { r with standbyTimer := none }) s))
  else s

/-- WARMUP_TIMER_EXPIRY (R72). -/
def warmupStep (s : State) : State :=
  if expired s.radio.warmTimer then
    refreshOff (startIdle (setMode .active (modRadio (fun r => { r with warmTimer := none }) s)))
  else s

/-- SHELTER_TIMER_EXPIRY (R66). -/
def shelterStep (p : Path) (s : State) : State :=
  if expired (s.sup.get p).shelterTimer then settle (enterAcquire p s) else s

/-- FIELD_DEBOUNCE_EXPIRY (R112). -/
def debounceStep (s : State) : State := if expired s.storm.debounce then takeField s else s

/-- STRIKE_TIMER_EXPIRY (R116). -/
def strikeStep (s : State) : State := if expired s.storm.strikeTimer then moveOwn .storm s else s

/-- STORM_CLEAR_TIMER_EXPIRY (R117). -/
def stormClearStep (s : State) : State := if expired s.storm.stormTimer then moveOwn .watch s else s

/-- WATCH_CLEAR_TIMER_EXPIRY (R118). -/
def watchClearStep (s : State) : State := if expired s.storm.watchTimer then moveOwn .calm s else s

/-- PEER_FORGET (R119). -/
def forgetStep (s : State) : State := if expired s.storm.forgetTimer then forgetPeer s else s

/-- TUNNEL_TIMEOUT (R179). -/
def tunnelStep (p : Port) (s : State) : State :=
  match (s.ports.lp.get p).tunnel with
  | some t => if t.timeout = 0 then expireTunnel p t s else s
  | none => s

/-! ### Lines and edges -/

/-- FIELD_CHANGE (R112): the line stands at the given level from now on. -/
def fieldStep (high : Bool) (s : State) : State :=
  if s.fieldLine = high then s else fieldChanged { s with fieldLine := high }

/-- An edge is taken when the last taken one on its line is at least 1 ms back (R113). -/
def edgeTaken (last : Option Nat) (now : Nat) : Bool :=
  match last with
  | none => true
  | some t => decide (t + 1000 ≤ now)

/-- FLASH_EDGE (R113, R114). -/
def flashStep (s : State) : State :=
  if edgeTaken s.storm.lastFlash s.clock.ref then
    strikeIndication .flash (modStorm (fun m => { m with lastFlash := some s.clock.ref, flashTaken := bump m.flashTaken }) s)
  else modStorm (fun m => { m with flashIgnored := bump m.flashIgnored }) s

/-- SURGE_EDGE (R113, R114). -/
def surgeStep (s : State) : State :=
  if edgeTaken s.storm.lastSurge s.clock.ref then
    strikeIndication .surge (modStorm (fun m => { m with lastSurge := some s.clock.ref, surgeTaken := bump m.surgeTaken }) s)
  else modStorm (fun m => { m with surgeIgnored := bump m.surgeIgnored }) s

/-! ### The passing of time -/

/-- One microsecond off a running timer. -/
def tickTimer (t : Option Nat) : Option Nat := t.map fun n => n - 1

/-- One microsecond of the reference clock for every timer that runs. -/
def tickTimers (s : State) : State :=
  { s with
    plan := { s.plan with lapseTimer := tickTimer s.plan.lapseTimer }
    radio :=
      { s.radio with
        idleTimer := tickTimer s.radio.idleTimer
        standbyTimer := tickTimer s.radio.standbyTimer
        warmTimer := tickTimer s.radio.warmTimer }
    sup := PerPath.of fun p => { s.sup.get p with shelterTimer := tickTimer (s.sup.get p).shelterTimer }
    storm :=
      { s.storm with
        debounce := tickTimer s.storm.debounce
        strikeTimer := tickTimer s.storm.strikeTimer
        stormTimer := tickTimer s.storm.stormTimer
        watchTimer := tickTimer s.storm.watchTimer
        forgetTimer := tickTimer s.storm.forgetTimer }
    ports :=
      { s.ports with
        lp :=
          ⟨{ s.ports.lp.lp1 with tunnel := s.ports.lp.lp1.tunnel.map fun t => { t with timeout := t.timeout - 1 } },
            { s.ports.lp.lp2 with tunnel := s.ports.lp.lp2.tunnel.map fun t => { t with timeout := t.timeout - 1 } }⟩ } }

/-- Link time goes on by a microsecond; what was done for the instant before is done no more. -/
def stepLink (c : Clock) : Clock := { c with link := tadd c.link 1, rolled := false, started := false }

/-- How much of a correction has been spread after so many microseconds (R80). -/
def spreadOf (c : Int) (spent : Nat) : Nat := spent * c.natAbs / 1000

/-- A correction after one more microsecond; it ends after 1,000 of them (R80). -/
def slewAfter (w : Slew) : Option Slew := if w.spent + 1 < 1000 then some { w with spent := w.spent + 1 } else none

/-- A correction moves link time in this microsecond (R80). -/
def slewMoves (w : Slew) : Bool := decide (spreadOf w.c w.spent < spreadOf w.c (w.spent + 1))

/-- One microsecond of the reference clock: link time goes on by one, by none where a negative correction moves it, and
owes one more where a positive one does (R77, R80). -/
def tickClock (c : Clock) : Clock :=
  match c.slew with
  | none => stepLink { c with ref := c.ref + 1 }
  | some w =>
    let d := { c with ref := c.ref + 1, slew := slewAfter w }
    if slewMoves w then (if 0 < w.c then stepLink { d with owed := d.owed + 1 } else d) else stepLink d

/-- Time passes on the clocks and timers: link time that a correction owes runs first, then a microsecond of the reference
clock. -/
def passTime (s : State) : State :=
  if 0 < s.clock.owed then modClock (fun c => stepLink { c with owed := c.owed - 1 }) s
  else tickTimers (modClock tickClock s)

/-- Time passes; the check bytes of the blocks that end at the instant that has come leave ahead of all else that happens
there (R43, assumption log 1). -/
def tick (s : State) : State := sendChecks (passTime s)

end Sys2Proof.Machine
end

