-- ==== Sys2Proof/Machine/Management.lean ====
section
/-! DEFINITION. The meanings of the commands of the ports and the event unit, and of the frames that are none (chapters 9 and 10). Every meaning answers
a next state. -/

namespace Sys2Proof.Machine

/-- FETCH (R172). -/
def execFetch (port : Port) (s : State) : Host.Outcome State Fault Refusal :=
  .next (runFetch port s)

/-- STATUS (R175). -/
def execStatus (src : Source) (s : State) : Host.Outcome State Fault Refusal :=
  .next (runStatus src s)

/-- RESET (R180, R181). -/
def execReset (src : Source) (s : State) : Host.Outcome State Fault Refusal :=
  .next (runReset src s)

/-- SET-RANK (R174). -/
def execSetRank (src : Source) (requester : Byte) (rank : Byte) (s : State) : Host.Outcome State Fault Refusal :=
  .next (runSetRank src requester rank s)

/-- READ-COUNTERS (R41, R57, R82, R110, R135, R156, R182). -/
def execReadCounters (src : Source) (args : CounterArgs) (s : State) : Host.Outcome State Fault Refusal :=
  .next (runReadCounters src args s)

/-- READ-EVENTS (R185). -/
def execReadEvents (src : Source) (s : State) : Host.Outcome State Fault Refusal :=
  .next (runReadEvents src s)

/-- CLEAR-EVENTS (R185). -/
def execClearEvents (src : Source) (kinds : BitVec 32) (s : State) : Host.Outcome State Fault Refusal :=
  .next (runClearEvents src kinds s)

/-- SET-ENABLES (R186). -/
def execSetEnables (src : Source) (kinds : BitVec 32) (s : State) : Host.Outcome State Fault Refusal :=
  .next (runSetEnables src kinds s)

/-- TUNNEL (R176). -/
def execTunnel (src : Source) (inner : List Byte) (s : State) : Host.Outcome State Fault Refusal :=
  .next (runTunnel src inner s)

/-- FRAME_DISCARDED: a frame of the wrong length leaves the slot as it is and is counted (R170). -/
def execFrameDiscarded (port : Port) (s : State) : Host.Outcome State Fault Refusal :=
  .next (modPort port (fun x => { x with framesDiscarded := bump x.framesDiscarded }) s)

/-- UNKNOWN_COMMAND: answered at the port and counted, whatever state the terminal is in (R170). A code that names a
command is no such frame. -/
def execUnknownCommand (port : Port) (code : Byte) (s : State) : Host.Outcome State Fault Refusal :=
  .next
    (if namesCommand code then s else placeRecord port (recordOf code (bare .unknownCommand)) (countUnknown port s))

/-- TUNNEL_TIMEOUT (R179). -/
def execTunnelTimeout (port : Port) (s : State) : Host.Outcome State Fault Refusal :=
  .next (tunnelStep port s)

end Sys2Proof.Machine
end

