-- ==== Sys2Proof/Machine/Planning.lean ====
section
/-! DEFINITION. The meanings of the stream plan's and the switch engine's rows (chapters 1 and 7). Every meaning answers
a next state. -/

namespace Sys2Proof.Machine

/-- PIN (R20). -/
def execPin (src : Source) (s : State) : Host.Outcome State Fault Refusal :=
  .next (runPin src s)

/-- UNPIN (R21). -/
def execUnpin (src : Source) (s : State) : Host.Outcome State Fault Refusal :=
  .next (runUnpin src s)

/-- CLAIM (R14). -/
def execClaim (src : Source) (args : ClaimArgs) (s : State) : Host.Outcome State Fault Refusal :=
  .next (runClaim src args s)

/-- RELEASE (R16). -/
def execRelease (src : Source) (s : State) : Host.Outcome State Fault Refusal :=
  .next (runRelease src s)

/-- SET-STREAM (R9 to R11). -/
def execSetStream (src : Source) (index : Byte) (args : StreamArgs) (s : State) : Host.Outcome State Fault Refusal :=
  .next (runSetStream src index args s)

/-- CLEAR-STREAM (R12). -/
def execClearStream (src : Source) (index : Byte) (s : State) : Host.Outcome State Fault Refusal :=
  .next (runClearStream src index s)

/-- REVERT (R13). -/
def execRevert (src : Source) (s : State) : Host.Outcome State Fault Refusal :=
  .next (runRevert src s)

/-- COMMIT (R138, R139). -/
def execCommit (src : Source) (args : CommitArgs) (s : State) : Host.Outcome State Fault Refusal :=
  .next (runCommit src args s)

/-- ABORT-SWITCH (R151). -/
def execAbortSwitch (src : Source) (s : State) : Host.Outcome State Fault Refusal :=
  .next (runAbortSwitch src s)

/-- READ-STREAM (R8). -/
def execReadStream (src : Source) (index : Byte) (copy : Byte) (s : State) : Host.Outcome State Fault Refusal :=
  .next (runReadStream src index copy s)

/-- READ-SWITCH (R155). -/
def execReadSwitch (src : Source) (s : State) : Host.Outcome State Fault Refusal :=
  .next (runReadSwitch src s)

/-- SWITCH_DEADLINE (R141). -/
def execSwitchDeadline (s : State) : Host.Outcome State Fault Refusal :=
  .next (deadlineStep s)

/-- PLAN_SWITCH (R148). -/
def execPlanSwitch (s : State) : Host.Outcome State Fault Refusal :=
  .next (switchStep s)

/-- CLAIM_LAPSE (R15). -/
def execClaimLapse (s : State) : Host.Outcome State Fault Refusal :=
  .next (lapseStep s)

end Sys2Proof.Machine
end

