-- ==== Sys2Proof/Machine/Restarts.lean ====
section
/-! DEFINITION. The meanings of the resets. Every meaning answers
a next state. -/

namespace Sys2Proof.Machine

/-- POWER_ON_RESET (R22, R133). -/
def execPowerOnReset (roleLine : Role) (s : State) : Host.Outcome State Fault Refusal :=
  .next (resetPowerOn roleLine s)

/-- BROWNOUT_RESET (R133). -/
def execBrownoutReset (roleLine : Role) (s : State) : Host.Outcome State Fault Refusal :=
  .next (resetKeeping .brownout roleLine s)

/-- RESET_PENDING_DRAINED (R181). -/
def execResetPendingDrained (s : State) : Host.Outcome State Fault Refusal :=
  .next (resetDrainedStep s)

/-- RESET_PENDING_LIMIT (R181). -/
def execResetPendingLimit (s : State) : Host.Outcome State Fault Refusal :=
  .next (resetLimitStep s)

end Sys2Proof.Machine
end

