-- ==== Sys2Proof/Machine/Storms.lean ====
section
/-! DEFINITION. The meanings of the storm unit's rows: lines, timers, levels, parking (chapter 6). Every meaning answers
a next state. -/

namespace Sys2Proof.Machine

/-- SET-STORM (R122). -/
def execSetStorm (src : Source) (args : StormArgs) (s : State) : Host.Outcome State Fault Refusal :=
  .next (runSetStorm src args s)

/-- PARK (R127). -/
def execPark (src : Source) (s : State) : Host.Outcome State Fault Refusal :=
  .next (runPark src s)

/-- WAKE (R132). -/
def execWake (src : Source) (s : State) : Host.Outcome State Fault Refusal :=
  .next (runWake src s)

/-- FIELD_CHANGE (R112). -/
def execFieldChange (lineHigh : Bool) (s : State) : Host.Outcome State Fault Refusal :=
  .next (fieldStep lineHigh s)

/-- FIELD_DEBOUNCE_EXPIRY (R112). -/
def execFieldDebounceExpiry (s : State) : Host.Outcome State Fault Refusal :=
  .next (debounceStep s)

/-- FLASH_EDGE (R113). -/
def execFlashEdge (s : State) : Host.Outcome State Fault Refusal :=
  .next (flashStep s)

/-- SURGE_EDGE (R113). -/
def execSurgeEdge (s : State) : Host.Outcome State Fault Refusal :=
  .next (surgeStep s)

/-- STRIKE_TIMER_EXPIRY (R116). -/
def execStrikeTimerExpiry (s : State) : Host.Outcome State Fault Refusal :=
  .next (strikeStep s)

/-- STORM_CLEAR_TIMER_EXPIRY (R117). -/
def execStormClearTimerExpiry (s : State) : Host.Outcome State Fault Refusal :=
  .next (stormClearStep s)

/-- WATCH_CLEAR_TIMER_EXPIRY (R118). -/
def execWatchClearTimerExpiry (s : State) : Host.Outcome State Fault Refusal :=
  .next (watchClearStep s)

/-- PEER_FORGET (R119). -/
def execPeerForget (s : State) : Host.Outcome State Fault Refusal :=
  .next (forgetStep s)

/-- PARK_COMPLETE (R129). -/
def execParkComplete (s : State) : Host.Outcome State Fault Refusal :=
  .next (parkDrainedStep s)

/-- PARKING_LIMIT (R129). -/
def execParkingLimit (s : State) : Host.Outcome State Fault Refusal :=
  .next (parkLimitStep s)

end Sys2Proof.Machine
end

