-- ==== Sys2Proof/Machine/Supervising.lean ====
section
/-! DEFINITION. The meanings of the rows of framing, path supervision and the radio (chapters 3 and 4). Every meaning answers
a next state. -/

namespace Sys2Proof.Machine

/-- The split count reaches 20 in a step (R152). -/
def splitsIn (s t : State) : Bool := decide (s.switch.split < 20) && decide (t.switch.split = 20)

/-- The path leaves ACQUIRE for PROBATION in a step (R61). -/
def acquiresIn (p : Path) (s t : State) : Bool := decide (pstate s p = .acquire) && decide (pstate t p = .probation)

/-- The states in which a path keeps a miss run (R64). -/
def tracksHeaders : PathState → Bool
  | .probation => true
  | .up => true
  | .degraded => true
  | .sweep => true
  | _ => false

/-- The path loses alignment in a step: it is in ACQUIRE, or in SHELTER by an order that the loss itself brought (R64,
R124). -/
def losesIn (p : Path) (s t : State) : Bool :=
  tracksHeaders (pstate s p) && (decide (pstate t p = .acquire) || decide (pstate t p = .shelter))

/-- The path completes probation in a step (R62). -/
def probatesIn (p : Path) (s t : State) : Bool := decide (pstate s p = .probation) && decide (pstate t p = .up)

/-- The path recovers in a step (R63). -/
def recoversIn (p : Path) (s t : State) : Bool := decide (pstate s p = .degraded) && decide (pstate t p = .up)

/-- READ-PATH (R82). -/
def execReadPath (src : Source) (path : Byte) (s : State) : Host.Outcome State Fault Refusal :=
  .next (runReadPath src path s)

/-- PATH-ENABLE (R68). -/
def execPathEnable (src : Source) (path : Byte) (value : Byte) (s : State) : Host.Outcome State Fault Refusal :=
  .next (runPathEnable src path value s)

/-- SET-PATH (R56, R69, R123). -/
def execSetPath (src : Source) (args : PathArgs) (s : State) : Host.Outcome State Fault Refusal :=
  .next (runSetPath src args s)

/-- SET-RADIO-TIMERS (R74). -/
def execSetRadioTimers (src : Source) (args : RadioArgs) (s : State) : Host.Outcome State Fault Refusal :=
  .next (runSetRadioTimers src args s)

/-- WAKE-RADIO (R72). -/
def execWakeRadio (src : Source) (s : State) : Host.Outcome State Fault Refusal :=
  .next (runWakeRadio src s)

/-- HEADER_RECEIVED (R48, R49). -/
def execHeaderReceived (path : Path) (arrival : HeaderArrival) (s : State) : Host.Outcome State Fault Refusal :=
  .next (receiveHeader path arrival s)

/-- HEADER_MISSING (R48, R55). -/
def execHeaderMissing (path : Path) (s : State) : Host.Outcome State Fault Refusal :=
  .next (missHeader path s)

/-- EPOCH_SPLIT: the header that brings the split count to 20 (R152). -/
def execEpochSplit (path : Path) (arrival : HeaderArrival) (s : State) : Host.Outcome State Fault Refusal :=
  .next (if splitsIn s (receiveHeader path arrival s) then receiveHeader path arrival s else s)

/-- ACQUISITION_COMPLETE: the header that completes the acquisition run (R61). -/
def execAcquisitionComplete (path : Path) (arrival : HeaderArrival) (s : State) : Host.Outcome State Fault Refusal :=
  .next
    (if acquiresIn path s (receiveHeader path arrival s) then receiveHeader path arrival s else s)

/-- ALIGNMENT_LOSS: the result that brings the miss run to 2 (R64). -/
def execAlignmentLoss (path : Path) (event : RxEvent) (s : State) : Host.Outcome State Fault Refusal :=
  .next (if losesIn path s (receive path event s) then receive path event s else s)

/-- BLOCK_JUDGED (R51 to R53). -/
def execBlockJudged (path : Path) (block : BlockArrival) (s : State) : Host.Outcome State Fault Refusal :=
  .next (receiveBlock path block s)

/-- PROBATION_COMPLETE: the report, or the first delay sample, that completes probation (R62). -/
def execProbationComplete (path : Path) (event : RxEvent) (s : State) : Host.Outcome State Fault Refusal :=
  .next (if probatesIn path s (receive path event s) then receive path event s else s)

/-- RECOVERY_COMPLETE: the report that brings the recovery count to 100 (R63). -/
def execRecoveryComplete (path : Path) (event : RxEvent) (s : State) : Host.Outcome State Fault Refusal :=
  .next (if recoversIn path s (receive path event s) then receive path event s else s)

/-- IDLE_TIMER_EXPIRY (R70). -/
def execIdleTimerExpiry (s : State) : Host.Outcome State Fault Refusal :=
  .next (idleStep s)

/-- STANDBY_TIMER_EXPIRY (R71). -/
def execStandbyTimerExpiry (s : State) : Host.Outcome State Fault Refusal :=
  .next (standbyStep s)

/-- WARMUP_TIMER_EXPIRY (R72). -/
def execWarmupTimerExpiry (s : State) : Host.Outcome State Fault Refusal :=
  .next (warmupStep s)

/-- SHELTER_TIMER_EXPIRY (R66). -/
def execShelterTimerExpiry (path : Path) (s : State) : Host.Outcome State Fault Refusal :=
  .next (shelterStep path s)

end Sys2Proof.Machine
end

