-- ==== Sys2Proof/Machine/Sweeping.lean ====
section
/-! DEFINITION. The meanings of the sweep engine's rows (chapter 8). Every meaning answers
a next state. -/

namespace Sys2Proof.Machine

/-- The counts that an engine has stored: those of a running sweep, or of a sweep that just ended COMPLETE. -/
def storedSteps (w : Sweep) : Option Nat :=
  match w.engine, w.last with
  | .running c, _ => some c.counts.length
  | .idle, some r => if r.outcome = .complete then some r.counts.length else none
  | _, _ => none

/-- The running sweep of a path stores a step's count in a step of the machine (R160). -/
def stepsIn (p : Path) (s t : State) : Bool :=
  match s.sweep.engine with
  | .running c => decide (c.path = p) && decide (storedSteps t.sweep = some (c.counts.length + 1))
  | _ => false

/-- READ-SWEEP (R168). -/
def execReadSweep (src : Source) (s : State) : Host.Outcome State Fault Refusal :=
  .next (runReadSweep src s)

/-- SWEEP (R158). -/
def execSweep (src : Source) (path : Byte) (s : State) : Host.Outcome State Fault Refusal :=
  .next (runSweep src path s)

/-- SUSPEND-SWEEP (R163). -/
def execSuspendSweep (src : Source) (s : State) : Host.Outcome State Fault Refusal :=
  .next (runSuspendSweep src s)

/-- RESUME-SWEEP (R164). -/
def execResumeSweep (src : Source) (s : State) : Host.Outcome State Fault Refusal :=
  .next (runResumeSweep src s)

/-- ABORT-SWEEP (R165). -/
def execAbortSweep (src : Source) (s : State) : Host.Outcome State Fault Refusal :=
  .next (runAbortSweep src s)

/-- SWEEP_PENDING_START (R159). -/
def execSweepPendingStart (s : State) : Host.Outcome State Fault Refusal :=
  .next (startPending s)

/-- SWEEP_STEP_COMPLETE: the 64th counted report of a step (R160, R161). -/
def execSweepStepComplete (path : Path) (event : RxEvent) (s : State) : Host.Outcome State Fault Refusal :=
  .next (if stepsIn path s (receive path event s) then receive path event s else s)

end Sys2Proof.Machine
end

