-- ==== Sys2Proof/Machine/Traffic.lean ====
section
/-! DEFINITION. The meanings of the rows of dispatch and the rejoin engine (chapters 2, 3 and 5). Every meaning answers
a next state. -/

namespace Sys2Proof.Machine

/-- INGRESS_CELL (R23 to R30): a cell taken at the start of the switch superframe is taken under the new plan. -/
def execIngressCell (stream : StreamIx) (payload : List Byte) (s : State) : Host.Outcome State Fault Refusal :=
  .next (takeIngress stream payload (beginAccept s))

/-- OUTBOX_MOVE (R33): the cell it makes is accepted as one from ingress is. -/
def execOutboxMove (s : State) : Host.Outcome State Fault Refusal :=
  .next (moveHead (beginAccept s))

/-- SUPERFRAME_START (R24, R37, R43, R54, R142). -/
def execSuperframeStart (s : State) : Host.Outcome State Fault Refusal :=
  .next (startOfSuperframe s)

/-- SLOT_START (R36 to R38). -/
def execSlotStart (path : Path) (s : State) : Host.Outcome State Fault Refusal :=
  .next (if slotDue s path then serveSlot path s else s)

/-- READ-WINDOW (R111). -/
def execReadWindow (src : Source) (index : Byte) (start : BitVec 16) (count : Byte) (s : State) :
    Host.Outcome State Fault Refusal :=
  .next (runReadWindow src index start count s)

/-- RESYNC: the copy that is the eighth STRAY (R92), handed on from a path in service (R52). -/
def execResync (path : Path) (quality : Quality) (copy : CellArrival) (s : State) :
    Host.Outcome State Fault Refusal :=
  .next
    (if eligible s path && !copy.cell.fill && resyncs s { path := path, quality := quality, copy := copy } then
       takeCopy { path := path, quality := quality, copy := copy } s
     else s)

/-- RELEASE_EVENT (R97 to R99, R108). -/
def execReleaseEvent (stream : StreamIx) (s : State) : Host.Outcome State Fault Refusal :=
  .next (releaseAt stream s)

end Sys2Proof.Machine
end

