-- ==== Sys2Proof/Machine/Dispatch.lean ====
section
/-! DEFINITION. One arm for each row of spec/opcode_table.json. -/

namespace Sys2Proof.Machine

def exec (i : Instr) (s : State) : Host.Outcome State Fault Refusal :=
  match i with
  | .fetch port => Sys2Proof.Machine.execFetch port s
  | .status src => Sys2Proof.Machine.execStatus src s
  | .reset src => Sys2Proof.Machine.execReset src s
  | .setRank src requester rank => Sys2Proof.Machine.execSetRank src requester rank s
  | .pin src => Sys2Proof.Machine.execPin src s
  | .unpin src => Sys2Proof.Machine.execUnpin src s
  | .claim src args => Sys2Proof.Machine.execClaim src args s
  | .release src => Sys2Proof.Machine.execRelease src s
  | .setStream src index args => Sys2Proof.Machine.execSetStream src index args s
  | .clearStream src index => Sys2Proof.Machine.execClearStream src index s
  | .revert src => Sys2Proof.Machine.execRevert src s
  | .commit src args => Sys2Proof.Machine.execCommit src args s
  | .abortSwitch src => Sys2Proof.Machine.execAbortSwitch src s
  | .readStream src index copy => Sys2Proof.Machine.execReadStream src index copy s
  | .readWindow src index start count => Sys2Proof.Machine.execReadWindow src index start count s
  | .readPath src path => Sys2Proof.Machine.execReadPath src path s
  | .readCounters src args => Sys2Proof.Machine.execReadCounters src args s
  | .readEvents src => Sys2Proof.Machine.execReadEvents src s
  | .clearEvents src kinds => Sys2Proof.Machine.execClearEvents src kinds s
  | .setEnables src kinds => Sys2Proof.Machine.execSetEnables src kinds s
  | .readSweep src => Sys2Proof.Machine.execReadSweep src s
  | .readSwitch src => Sys2Proof.Machine.execReadSwitch src s
  | .tunnel src inner => Sys2Proof.Machine.execTunnel src inner s
  | .pathEnable src path value => Sys2Proof.Machine.execPathEnable src path value s
  | .setPath src args => Sys2Proof.Machine.execSetPath src args s
  | .setRadioTimers src args => Sys2Proof.Machine.execSetRadioTimers src args s
  | .wakeRadio src => Sys2Proof.Machine.execWakeRadio src s
  | .setStorm src args => Sys2Proof.Machine.execSetStorm src args s
  | .park src => Sys2Proof.Machine.execPark src s
  | .wake src => Sys2Proof.Machine.execWake src s
  | .sweep src path => Sys2Proof.Machine.execSweep src path s
  | .suspendSweep src => Sys2Proof.Machine.execSuspendSweep src s
  | .resumeSweep src => Sys2Proof.Machine.execResumeSweep src s
  | .abortSweep src => Sys2Proof.Machine.execAbortSweep src s
  | .frameDiscarded port => Sys2Proof.Machine.execFrameDiscarded port s
  | .unknownCommand port code => Sys2Proof.Machine.execUnknownCommand port code s
  | .powerOnReset roleLine => Sys2Proof.Machine.execPowerOnReset roleLine s
  | .brownoutReset roleLine => Sys2Proof.Machine.execBrownoutReset roleLine s
  | .resetPendingDrained => Sys2Proof.Machine.execResetPendingDrained s
  | .resetPendingLimit => Sys2Proof.Machine.execResetPendingLimit s
  | .ingressCell stream payload => Sys2Proof.Machine.execIngressCell stream payload s
  | .outboxMove => Sys2Proof.Machine.execOutboxMove s
  | .superframeStart => Sys2Proof.Machine.execSuperframeStart s
  | .slotStart path => Sys2Proof.Machine.execSlotStart path s
  | .headerReceived path arrival => Sys2Proof.Machine.execHeaderReceived path arrival s
  | .headerMissing path => Sys2Proof.Machine.execHeaderMissing path s
  | .epochSplit path arrival => Sys2Proof.Machine.execEpochSplit path arrival s
  | .acquisitionComplete path arrival => Sys2Proof.Machine.execAcquisitionComplete path arrival s
  | .alignmentLoss path event => Sys2Proof.Machine.execAlignmentLoss path event s
  | .blockJudged path block => Sys2Proof.Machine.execBlockJudged path block s
  | .probationComplete path event => Sys2Proof.Machine.execProbationComplete path event s
  | .recoveryComplete path event => Sys2Proof.Machine.execRecoveryComplete path event s
  | .resync path quality copy => Sys2Proof.Machine.execResync path quality copy s
  | .releaseEvent stream => Sys2Proof.Machine.execReleaseEvent stream s
  | .switchDeadline => Sys2Proof.Machine.execSwitchDeadline s
  | .planSwitch => Sys2Proof.Machine.execPlanSwitch s
  | .claimLapse => Sys2Proof.Machine.execClaimLapse s
  | .idleTimerExpiry => Sys2Proof.Machine.execIdleTimerExpiry s
  | .standbyTimerExpiry => Sys2Proof.Machine.execStandbyTimerExpiry s
  | .warmupTimerExpiry => Sys2Proof.Machine.execWarmupTimerExpiry s
  | .shelterTimerExpiry path => Sys2Proof.Machine.execShelterTimerExpiry path s
  | .fieldChange lineHigh => Sys2Proof.Machine.execFieldChange lineHigh s
  | .fieldDebounceExpiry => Sys2Proof.Machine.execFieldDebounceExpiry s
  | .flashEdge => Sys2Proof.Machine.execFlashEdge s
  | .surgeEdge => Sys2Proof.Machine.execSurgeEdge s
  | .strikeTimerExpiry => Sys2Proof.Machine.execStrikeTimerExpiry s
  | .stormClearTimerExpiry => Sys2Proof.Machine.execStormClearTimerExpiry s
  | .watchClearTimerExpiry => Sys2Proof.Machine.execWatchClearTimerExpiry s
  | .peerForget => Sys2Proof.Machine.execPeerForget s
  | .parkComplete => Sys2Proof.Machine.execParkComplete s
  | .parkingLimit => Sys2Proof.Machine.execParkingLimit s
  | .sweepPendingStart => Sys2Proof.Machine.execSweepPendingStart s
  | .sweepStepComplete path event => Sys2Proof.Machine.execSweepStepComplete path event s
  | .tunnelTimeout port => Sys2Proof.Machine.execTunnelTimeout port s

end Sys2Proof.Machine
end

