-- ==== Sys2Proof/Machine/Idle.lean ====
section
/-! DEFINITION. What the terminal does by itself when no command waits: the next event that is due at this instant, in the
model's order of events that fall together (assumption log 1), or else the passing of time. -/

namespace Sys2Proof.Machine

/-- A choice: the event, when its condition holds. -/
def offer (b : Bool) (i : Instr) : Option Instr := if b then some i else none

/-- Dispatch has a message to move, or a wake request to send for it (R33). A message that already waits finds no eligible
path again when W falls into STANDBY later: it sends another request then (DESIGN CHOICE, assumption log 37). -/
def moveDue (s : State) : Bool :=
  !s.disp.outbox.isEmpty &&
    (if eligibilityOrder s = [] then decide (s.radio.mode = .standby) && !isParked s
     else decide (sget s.disp.budget 0 < budgetOf (sget s.plan.active 0)))

/-- A pending sweep can start (R159). -/
def pendingReady (s : State) : Bool :=
  match s.sweep.engine with
  | .pending c => sweepReady s c.path
  | _ => false

/-- A port's tunnel has timed out (R179). -/
def tunnelExpired (s : State) (p : Port) : Bool :=
  match (s.ports.lp.get p).tunnel with
  | some t => decide (t.timeout = 0)
  | none => false

/-- What is due at a superframe start, in order. -/
def dueBoundary (s : State) : List (Option Instr) :=
  [offer (boundary s && (deadlineDue s).isSome) .switchDeadline,
   offer (boundary s && (switchDue s).isSome) .planSwitch,
   offer (resetDrained s) .resetPendingDrained,
   offer (resetAtLimit s) .resetPendingLimit,
   offer (parkDrained s) .parkComplete,
   offer (parkAtLimit s) .parkingLimit,
   offer (boundary s) .superframeStart]

/-- The timers that have run out, in order. -/
def dueTimers (s : State) : List (Option Instr) :=
  [offer (expired s.plan.lapseTimer) .claimLapse,
   offer (expired s.radio.idleTimer) .idleTimerExpiry,
   offer (expired s.radio.standbyTimer) .standbyTimerExpiry,
   offer (expired s.radio.warmTimer) .warmupTimerExpiry,
   offer (expired s.sup.a.shelterTimer) (.shelterTimerExpiry .a),
   offer (expired s.sup.b.shelterTimer) (.shelterTimerExpiry .b),
   offer (expired s.sup.w.shelterTimer) (.shelterTimerExpiry .w),
   offer (expired s.storm.debounce) .fieldDebounceExpiry,
   offer (expired s.storm.strikeTimer) .strikeTimerExpiry,
   offer (expired s.storm.stormTimer) .stormClearTimerExpiry,
   offer (expired s.storm.watchTimer) .watchClearTimerExpiry,
   offer (expired s.storm.forgetTimer) .peerForget,
   offer (tunnelExpired s .lp1) (.tunnelTimeout .lp1),
   offer (tunnelExpired s .lp2) (.tunnelTimeout .lp2)]

/-- The work of the blocks that is due at this instant, in order. -/
def dueWork (s : State) : List (Option Instr) :=
  [offer (moveDue s) .outboxMove,
   offer (pendingReady s) .sweepPendingStart,
   (allStreams.find? fun i => (releaseDue s i).isSome).map .releaseEvent,
   offer (slotDue s .a) (.slotStart .a),
   offer (slotDue s .b) (.slotStart .b),
   offer (slotDue s .w) (.slotStart .w)]

/-- The first event that is due at this instant. -/
def nextDue (s : State) : Option Instr := (dueBoundary s ++ dueTimers s ++ dueWork s).findSome? id

/-- With no command waiting: the next due event joins the queue, or time passes. -/
def idle (s : State) : State :=
  match nextDue s with
  | some i => { s with pending := [i] }
  | none => tick s

end Sys2Proof.Machine
end

