-- ==== Sys2Proof/WellFormed.lean ====
section
/-! DEFINITION. Which steps are well formed: the ranges of operands that their types leave wider than the manual does. -/

namespace Sys2Proof

/-- A link time or an arrival stamped with one: 0 to 65,535,999 (00_scope). -/
def linkOk (t : Nat) : Bool := decide (t < 65536000)

/-- A cell: 240 payload bytes, an origin time that is a link time; a fill cell is zero in every other field (section
3.7). -/
def Cell.wf (c : Cell) : Bool :=
  if c.fill then decide (c.copyIndex = 0) && decide (c.stream = 0) && decide (c.seq = 0) && decide (c.origin = 0)
  else decide (c.payload.length = 240) && linkOk c.origin && decide (c.copyIndex.toNat < 3)

/-- A cell on its arrival. -/
def CellArrival.wf (c : CellArrival) : Bool := c.cell.wf && linkOk c.arrival

/-- A header on its arrival: its link time stamp. The fields themselves may hold anything, since a damaged or foreign
header is judged, not refused (R48). -/
def HeaderArrival.wf (a : HeaderArrival) : Bool := linkOk a.arrivalLink

/-- The cells of the longest block. -/
def maxBlock : Nat := 16

/-- A block on its arrival: no more cells than a block has, nor more corrupted bytes than they and the check bytes hold
(R50, R51). -/
def BlockArrival.wf (b : BlockArrival) : Bool :=
  decide (b.cells.length ≤ maxBlock) && decide (b.corrupted ≤ maxBlock * 256 + 8) && b.cells.all CellArrival.wf

/-- What a receiving half meets. -/
def RxEvent.wf : RxEvent → Bool
  | .header a => a.wf
  | .missing => true
  | .block b => b.wf

/-- A source: the rank that a TUNNEL-REQUEST carries is a rank (R176). -/
def Source.wf : Source → Bool
  | .lp _ => true
  | .pt _ farRank _ => decide (farRank.toNat < 4)

/-- A command's frame can be written: an inner frame has a length of one byte (section 9.6). -/
def Request.wf : Request → Bool
  | .tunnel inner => decide (inner.length < 256)
  | _ => true

/-- The source of a command row, where it has one. -/
def Instr.source : Instr → Option Source
  | .status src => some src
  | .reset src => some src
  | .setRank src _ _ => some src
  | .pin src => some src
  | .unpin src => some src
  | .claim src _ => some src
  | .release src => some src
  | .setStream src _ _ => some src
  | .clearStream src _ => some src
  | .revert src => some src
  | .commit src _ => some src
  | .abortSwitch src => some src
  | .readStream src _ _ => some src
  | .readWindow src _ _ _ => some src
  | .readPath src _ => some src
  | .readCounters src _ => some src
  | .readEvents src => some src
  | .clearEvents src _ => some src
  | .setEnables src _ => some src
  | .readSweep src => some src
  | .readSwitch src => some src
  | .tunnel src _ => some src
  | .pathEnable src _ _ => some src
  | .setPath src _ => some src
  | .setRadioTimers src _ => some src
  | .wakeRadio src => some src
  | .setStorm src _ => some src
  | .park src => some src
  | .wake src => some src
  | .sweep src _ => some src
  | .suspendSweep src => some src
  | .resumeSweep src => some src
  | .abortSweep src => some src
  | _ => none

/-- A row is well formed. -/
def Instr.wf (i : Instr) : Bool :=
  (match i.source with | some src => src.wf | none => true) &&
    match i with
    | .tunnel _ inner => decide (inner.length < 256)
    | .unknownCommand _ code => !namesCommand code
    | .ingressCell _ payload => decide (payload.length = 240)
    | .headerReceived _ a => a.wf
    | .epochSplit _ a => a.wf
    | .acquisitionComplete _ a => a.wf
    | .alignmentLoss _ e => e.wf
    | .blockJudged _ b => b.wf
    | .probationComplete _ e => e.wf
    | .recoveryComplete _ e => e.wf
    | .sweepStepComplete _ e => e.wf
    | .resync _ _ c => c.wf && !c.cell.fill
    | _ => true

end Sys2Proof
end

