-- ==== Sys2Proof/Safety.lean ====
section
/-! DEFINITION. The terms that statements about the terminal use: when a command passes its port, what an operand may be,
and what a sound state is. -/

namespace Sys2Proof.Machine

/-! ### Commands at a port (R173) -/

/-- A command of the given code, which needs the given rank, passes the four checks of R173. -/
abbrev Passes (code : Byte) (need : Nat) (src : Source) (s : State) : Prop :=
  (isParked s = true → code = 2 ∨ code = 30) ∧ (tunnelOut s src = true → code = 2) ∧
    (s.ports.resetPending.isSome = true → code = 2 ∨ localReset code src = true) ∧ effectiveRank s src ≤ need

/-- The code, the needed rank (section 9.2; `anyRank` where any will do) and the source of a row that is a command with
a response. -/
def portRow : Instr → Option (Byte × Nat × Source)
  | .status src => some (2, anyRank, src)
  | .reset src => some (3, 0, src)
  | .setRank src _ _ => some (4, 0, src)
  | .pin src => some (5, 0, src)
  | .unpin src => some (6, 0, src)
  | .claim src _ => some (7, 2, src)
  | .release src => some (8, 2, src)
  | .setStream src _ _ => some (9, 2, src)
  | .clearStream src _ => some (10, 2, src)
  | .revert src => some (11, 2, src)
  | .commit src _ => some (12, 2, src)
  | .abortSwitch src => some (13, 2, src)
  | .readStream src _ _ => some (14, anyRank, src)
  | .readWindow src _ _ _ => some (15, anyRank, src)
  | .readPath src _ => some (16, anyRank, src)
  | .readCounters src _ => some (17, anyRank, src)
  | .readEvents src => some (18, anyRank, src)
  | .clearEvents src _ => some (19, anyRank, src)
  | .setEnables src _ => some (20, anyRank, src)
  | .readSweep src => some (21, anyRank, src)
  | .readSwitch src => some (22, anyRank, src)
  | .tunnel src _ => some (23, anyRank, src)
  | .pathEnable src _ _ => some (24, 1, src)
  | .setPath src _ => some (25, 1, src)
  | .setRadioTimers src _ => some (26, 1, src)
  | .wakeRadio src => some (27, 1, src)
  | .setStorm src _ => some (28, 1, src)
  | .park src => some (29, 1, src)
  | .wake src => some (30, 1, src)
  | .sweep src _ => some (31, 1, src)
  | .suspendSweep src => some (32, 1, src)
  | .resumeSweep src => some (33, 1, src)
  | .abortSweep src => some (34, 1, src)
  | _ => none

/-- A saturating 16-bit counter after one more. -/
def oneMore (n : Nat) : Nat := min 65535 (n + 1)

/-- One value for each stream, 0 to 31. -/
abbrev eachStream {α : Type} (f : StreamIx → α) : List α := (List.finRange 32).map f

/-- One value for each path, in the order A, B, W. -/
abbrev eachPath {α : Type} (f : Path → α) : List α := [f .a, f .b, f .w]

/-- One value for each local port. -/
abbrev eachPort {α : Type} (f : Port → α) : List α := [f .lp1, f .lp2]

/-- A path's transmit queue has been emptied, and each of its copies counts as purged (R26, R35, R40). -/
abbrev Purged (s t : State) (p : Path) : Prop :=
  t.disp.queue.get p = [] ∧
    t.disp.purged.get p = min 65535 (s.disp.purged.get p + (s.disp.queue.get p).length)

/-- A path's transmit queue stands with its copies, and none of them counts as purged. -/
abbrev QueueKept (s t : State) (p : Path) : Prop :=
  t.disp.queue.get p = s.disp.queue.get p ∧ t.disp.purged.get p = s.disp.purged.get p

/-- What dispatch keeps through a park and a wake: the numbering, the budget counts and every counter but 'purged' (R40). -/
abbrev NumberingKept (s t : State) : Prop :=
  t.disp =
    { s.disp with outbox := t.disp.outbox, queue := t.disp.queue, purged := t.disp.purged, outboxFull := t.disp.outboxFull }

/-! ### Timers -/

/-- A timer after a microsecond: one that runs has one microsecond less, one that has run out stays at 0, one that is stopped
stays stopped. -/
abbrev Ticked (before after : Option Nat) : Prop :=
  (before = none → after = none) ∧ (before = some 0 → after = some 0) ∧ ∀ n, before = some (n + 1) → after = some n

/-! ### Operands -/

/-- A descriptor's fields are in the ranges of section 1.1. -/
abbrev Descriptor.InRange (d : Descriptor) : Prop :=
  d.stagger ≤ 160 ∧ 4 ≤ d.hold ∧ d.hold ≤ 320 ∧ d.budgetRaw ≤ 63 ∧ d.priority ≤ 3

/-- A message that a terminal can send: 31 descriptors in a PROPOSE, at most 224 bytes in a tunnel message (R137, R176,
R177). -/
abbrev Message.Sendable : Message → Prop
  | .propose _ _ _ ds => ds.length = 31
  | .tunnelRequest _ _ _ _ inner => inner.length ≤ 224
  | .tunnelResponse _ _ _ _ _ data => data.length ≤ 224
  | _ => True

/-! ### Validation (R18, R19) -/

/-- The table of R18, and what it says of the indices 1 to 31: the rule CLASS-MODE is met. -/
abbrev ClassModeMet (i : StreamIx) (d : Descriptor) : Prop :=
  classModeOk d.cls d.mode = true ∧ (i ≠ 0 → d.cls ≠ .system ∧ d.direction ≠ .both)

/-- The rule PATH is met. -/
abbrev PathMet (d : Descriptor) : Prop := d.mode = .triple ∨ d.preferred ≠ none

/-- The rule STAGGER is met. -/
abbrev StaggerMet (d : Descriptor) : Prop := staggered d.mode = true → d.stagger ≠ 0 ∧ d.stagger + 4 ≤ d.hold

/-- The rule SPAN is met. -/
abbrev SpanMet (d : Descriptor) : Prop := spanOf d ≤ 4096

/-- The UP total once the walk has added the spans of the present descriptors up to an index. -/
def upTotal (plan : Plan) (k : StreamIx) : Nat :=
  ((allStreams.filter fun i => decide (i ≤ k)).map fun i =>
    if (sget plan i).present = true ∧ (sget plan i).direction ≠ .down then spanOf (sget plan i) else 0).sum

/-- The DOWN total once the walk has added the spans of the present descriptors up to an index. -/
def downTotal (plan : Plan) (k : StreamIx) : Nat :=
  ((allStreams.filter fun i => decide (i ≤ k)).map fun i =>
    if (sget plan i).present = true ∧ (sget plan i).direction ≠ .up then spanOf (sget plan i) else 0).sum

/-- The descriptor of an index fails one of the five rules of R19, and no rule of lower order. -/
def FirstFault (plan : Plan) (k : StreamIx) : Reason → Prop
  | .classMode => ¬ClassModeMet k (sget plan k)
  | .path => ClassModeMet k (sget plan k) ∧ ¬PathMet (sget plan k)
  | .stagger => ClassModeMet k (sget plan k) ∧ PathMet (sget plan k) ∧ ¬StaggerMet (sget plan k)
  | .span =>
    ClassModeMet k (sget plan k) ∧ PathMet (sget plan k) ∧ StaggerMet (sget plan k) ∧ ¬SpanMet (sget plan k)
  | .store =>
    ClassModeMet k (sget plan k) ∧ PathMet (sget plan k) ∧ StaggerMet (sget plan k) ∧ SpanMet (sget plan k) ∧
      (8192 < upTotal plan k ∨ 8192 < downTotal plan k)
  | .field => False

/-! ### Events -/

/-- A kind is in every requester's event set. -/
abbrev Raised (k : KindSet) (s : State) : Prop := ∀ r : Requester, k &&& s.ev.sets.get r = k

/-! ### Paths and headers -/

/-- The states in which a path keeps an expected instant and a miss run (R48, R64). -/
abbrev Tracked (s : State) (p : Path) : Prop :=
  pstate s p = .probation ∨ pstate s p = .up ∨ pstate s p = .degraded ∨ pstate s p = .sweep

/-- A header's echo-of names a header sent before link time was last set (R75), which a header that arrives a quarter of M
after the setting cannot (assumption log 44). -/
abbrev EchoIsStale (s : State) (p : Path) (a : HeaderArrival) : Prop :=
  ∃ w, (s.sup.get p).staleUntil = some w ∧ a.arrivalRef < w.instant + 16384000 ∧
    atOrAfter a.header.echoOf.toNat w.first = false

/-- A loss of alignment is left out of the coincidence test (R65). -/
abbrev LossExcluded (s : State) (p : Path) : Prop :=
  (s.sup.get p).lastMuting = true ∨ s.storm.peerParked = true ∨ (s.sup.get p).lastOffset < 0 ∨
    20000 < (s.sup.get p).lastOffset

/-- The most recent counted loss of another path is unused and lies within the previous 2,000 µs (R65). -/
abbrev LossPartner (s : State) (p q : Path) : Prop :=
  q ≠ p ∧ ∃ l, (s.sup.get q).lastLoss = some l ∧ l.used = false ∧ s.clock.ref ≤ l.instant + 2000

/-! ### The power control of W -/

/-- W's power control after a change of the effective level to `l` (R73). -/
def radioAfter (l : Level) (r : Radio) : Radio :=
  if l = .calm then
    (if r.mode = .active then { r with idleTimer := if r.idleSet ≠ 0 then some (r.idleSet * 100000) else none } else r)
  else
    match r.mode with
    | .idle => { r with mode := .active, idleTimer := none, standbyTimer := none }
    | .standby => { r with mode := .warmup, idleTimer := none, standbyTimer := none, warmTimer := some 250000 }
    | _ => { r with idleTimer := none, standbyTimer := none }

/-- W's power control has followed the effective level from one state to another: untouched where the level is the same,
and with RADIO-POWER where the mode changed (R73, section 4.4). -/
abbrev RadioFollows (s t : State) : Prop :=
  t.radio = (if t.storm.effective = s.storm.effective then s.radio else radioAfter t.storm.effective s.radio) ∧
    (t.radio.mode ≠ s.radio.mode → Raised kindRadioPower t)

/-- The event unit was told of a change of the level and of no other: LEVEL-CHANGE is raised where the effective level
changes and is not where it stays (R121), IN-STORM holds at STORM and STRIKE and joins every event set where it begins, and
no kind leaves a set (R183, R184). -/
structure LevelTold (s t : State) : Prop where
  changed : t.storm.effective ≠ s.storm.effective →
    Raised kindLevelChange t ∧ condHolds t kindInStorm = stormy t.storm.effective
  same : t.storm.effective = s.storm.effective →
    (∀ r, (t.ev.sets.get r).getLsbD 5 = (s.ev.sets.get r).getLsbD 5) ∧
      condHolds t kindInStorm = condHolds s kindInStorm
  begun : condHolds s kindInStorm = false → condHolds t kindInStorm = true → Raised kindInStorm t
  kept : ∀ (r : Requester) (k : KindSet), k &&& s.ev.sets.get r = k → k &&& t.ev.sets.get r = k

/-! ### Shelter orders -/

/-- A sweep has ended with PATH-LOST: the record, the engine IDLE, SWEEP-END (R166). -/
abbrev EndsPathLost (c : CurrentSweep) (t : State) : Prop :=
  t.sweep =
      { engine := .idle
        last := some
          { path := c.path, outcome := .pathLost, byPark := false, counts := c.counts,
            margin := (c.counts.takeWhile fun n => decide (n = 0)).length } } ∧
    Raised kindSweepEnd t

/-- The storm unit issues a shelter order for a path that is exposed and has a shelter time, in every state but SHELTER
(R124). -/
abbrev ShelterDue (s : State) (p : Path) : Prop := (s.sup.get p).exposed = true ∧ (s.sup.get p).shelterMs ≠ 0

/-- The order of a path finds another path in UP, DEGRADED or PROBATION. The order is W, B, A, so a path considered earlier
counts as its own order left it, which is as it stands afterwards (R124, R125). -/
def OthersServe (s t : State) : Path → Prop
  | .w => inService s .b = true ∨ inService s .a = true
  | .b => inService t .w = true ∨ inService s .a = true
  | .a => inService t .w = true ∨ inService t .b = true

/-- A path has entered SHELTER by an applied order: the timer from the full shelter time, the estimate unset, the counts and
the miss run cleared (R66), the superframe in progress cut off and a closing header owed (R47), nothing expected (R60), the
queue emptied and counted (R35), and the order counted with SHELTER raised (R124). -/
structure Sheltered (s t : State) (p : Path) : Prop where
  sup : t.sup.get p =
    { s.sup.get p with
      state := .shelter
      shelterTimer := some ((s.sup.get p).shelterMs * 1000)
      delay := none, acqRun := 0, probCount := 0, probMet := false, recCount := 0, missRun := 0 }
  framer : t.framer.get p =
    { s.framer.get p with
      tx := { sending := false, nextSlot := 0, closing := true, owed := none }
      rx := none, expected := none, parkedMisses := 0 }
  queue : t.disp.queue.get p = []
  purged : t.disp.purged.get p = min 65535 (s.disp.purged.get p + (s.disp.queue.get p).length)
  shelters : t.storm.shelters.get p = oneMore (s.storm.shelters.get p)
  raised : Raised kindShelter t

/-- A path goes on as it was when orders are issued: a swept path back in UP, any other with its state, and nothing else of
its supervisor, framer and queue changed (R124, R125, R162). -/
abbrev NotSheltered (s t : State) (p : Path) : Prop :=
  t.sup.get p = { s.sup.get p with state := if pstate s p = .sweep then .up else pstate s p } ∧
    t.framer.get p = s.framer.get p ∧ t.disp.queue.get p = s.disp.queue.get p ∧
    t.disp.purged.get p = s.disp.purged.get p ∧ t.storm.shelters.get p = s.storm.shelters.get p

/-- A path takes no order, or none applies: nothing of it changes and nothing is counted (R124). -/
abbrev Unordered (s t : State) (p : Path) : Prop :=
  NotSheltered s t p ∧ t.storm.lastPathKept.get p = s.storm.lastPathKept.get p

/-- The order of a path was not applied, since it is the last in service: counted, and LAST-PATH-EXPOSED raised (R125). -/
abbrev KeptInService (s t : State) (p : Path) : Prop :=
  NotSheltered s t p ∧ t.storm.lastPathKept.get p = oneMore (s.storm.lastPathKept.get p) ∧ Raised kindLastPathExposed t

/-- The order of a path was applied (R124). -/
abbrev OrderApplied (s t : State) (p : Path) : Prop :=
  Sheltered s t p ∧ t.storm.lastPathKept.get p = s.storm.lastPathKept.get p

/-- What an entry into STRIKE or a SURGE at STRIKE does to a path while no sweep runs (R124, R125): none for a path that is
not exposed, has a shelter time of 0, or is in SHELTER or OFF; the last path in service is kept, counted and told; any other
enters SHELTER. -/
def ShelterOrdered (s t : State) (p : Path) : Prop :=
  (¬ShelterDue s p ∨ pstate s p = .shelter ∨ pstate s p = .off → Unordered s t p) ∧
  (ShelterDue s p → inService s p = true → ¬OthersServe s t p → KeptInService s t p) ∧
  (ShelterDue s p → pstate s p = .acquire ∨ (inService s p = true ∧ OthersServe s t p) → OrderApplied s t p)

/-- What an entry into STRIKE does to the sweep that runs, and to its path (R126, R162, R167): the order is taken first, and
the path leaves for SHELTER with the sweep ended PATH-LOST; or the suspension is, and the path, in UP, is then judged as any
other. -/
def SweepMeetsStrike (s t : State) (c : CurrentSweep) : Prop :=
  (ShelterDue s c.path ∧ OrderApplied s t c.path ∧ EndsPathLost c t) ∨
    (t.sweep = { s.sweep with engine := .suspended { c with taken := 0, failed := 0 } } ∧ Raised kindSweepSuspended t ∧
      (¬ShelterDue s c.path → Unordered s t c.path) ∧
      (ShelterDue s c.path → KeptInService s t c.path ∨ OrderApplied s t c.path))

/-- What an entry into STRIKE does to the other paths while a sweep runs: whether another path is in service at a path's order
follows the order that is taken (R125, R126). -/
def OrderedBesideSweep (s t : State) (p : Path) : Prop :=
  (¬ShelterDue s p ∨ pstate s p = .shelter ∨ pstate s p = .off → Unordered s t p) ∧
  (ShelterDue s p → pstate s p = .acquire → OrderApplied s t p) ∧
  (ShelterDue s p → inService s p = true → KeptInService s t p ∨ OrderApplied s t p)

/-! ### Response records (section 9.6) -/

/-- The number of a status in a response record. -/
def statusNumber : Status → Nat
  | .done => 1
  | .accepted => 2
  | .pending => 3
  | .busy => 4
  | .claimed => 5
  | .notHolder => 6
  | .rank => 7
  | .badArgument => 8
  | .invalid => 9
  | .pathNotReady => 10
  | .lastPath => 11
  | .inStorm => 12
  | .sweepActive => 13
  | .sweepSuspended => 14
  | .notSuspended => 15
  | .parked => 16
  | .tunnelPending => 17
  | .tunnelTimeout => 18
  | .lastRankZero => 19
  | .unknownCommand => 20

/-- The bytes that a field of a body takes, most significant first. -/
def fieldBytes (f : Field) : List Byte := (List.range f.bytes).map fun k => BitVec.ofNat 8 (f.value / 256 ^ (f.bytes - 1 - k))

/-! ### Commands of the peer -/

/-- The step that a command read from a frame is when it comes from a source; FETCH has none (R177). -/
def commandFrom (src : Source) : Request → Option Instr
  | .fetch => none
  | .status => some (.status src)
  | .reset => some (.reset src)
  | .setRank q k => some (.setRank src q k)
  | .pin => some (.pin src)
  | .unpin => some (.unpin src)
  | .claim a => some (.claim src a)
  | .release => some (.release src)
  | .setStream i a => some (.setStream src i a)
  | .clearStream i => some (.clearStream src i)
  | .revert => some (.revert src)
  | .commit a => some (.commit src a)
  | .abortSwitch => some (.abortSwitch src)
  | .readStream i c => some (.readStream src i c)
  | .readWindow i q c => some (.readWindow src i q c)
  | .readPath p => some (.readPath src p)
  | .readCounters a => some (.readCounters src a)
  | .readEvents => some (.readEvents src)
  | .clearEvents k => some (.clearEvents src k)
  | .setEnables k => some (.setEnables src k)
  | .readSweep => some (.readSweep src)
  | .readSwitch => some (.readSwitch src)
  | .tunnel inner => some (.tunnel src inner)
  | .pathEnable p v => some (.pathEnable src p v)
  | .setPath a => some (.setPath src a)
  | .setRadioTimers a => some (.setRadioTimers src a)
  | .wakeRadio => some (.wakeRadio src)
  | .setStorm a => some (.setStorm src a)
  | .park => some (.park src)
  | .wake => some (.wake src)
  | .sweep p => some (.sweep src p)
  | .suspendSweep => some (.suspendSweep src)
  | .resumeSweep => some (.resumeSweep src)
  | .abortSweep => some (.abortSweep src)

/-- A path's next slot has gone out with this cell: the transmitting half is at the slot behind it, and owes the check bytes
of a block that the slot ends (R43, R50). -/
abbrev SlotSent (s t : State) (p : Path) (cell : Cell) : Prop :=
  let x := (s.framer.get p).tx
  let len := cellsOf (s.framer.get p).inUse
  t.framer = s.framer.upd p (fun f =>
      { f with
        tx :=
          { x with
            nextSlot := x.nextSlot + 1
            sending := decide (x.nextSlot + 1 < slotsOf p)
            owed := if (x.nextSlot + 1) % len = 0 ∨ x.nextSlot + 1 = slotsOf p then some (x.nextSlot / len) else none } }) ∧
    t.out = { s.out with lines := s.out.lines.upd p fun l => l ++ [.slot x.nextSlot cell] }

/-! ### Dispatch at a superframe start -/

/-- Nothing comes ahead of a cell that dispatch accepts now: it is not the first instant of a superframe, or the budget
counts have been cleared for the superframe and no switch is due (R24, R148). -/
abbrev NothingAhead (s : State) : Prop :=
  s.clock.link % 1000 ≠ 0 ∨ (s.clock.rolled = true ∧ (s.clock.started = true ∨ switchDue s = none))

/-- Nothing that comes ahead of the superframe's own work is due at its start: no deadline, no switch, no pending reset, no
park (R141, R148, R181, R129). -/
abbrev NothingElseAtStart (s : State) : Prop :=
  deadlineDue s = none ∧ switchDue s = none ∧ resetDrained s = false ∧ resetAtLimit s = false ∧ parkDrained s = false ∧
    parkAtLimit s = false

/-- The state with the budget counts of a new superframe (R24). -/
def budgetsCleared (s : State) : State :=
  { s with clock := { s.clock with rolled := true }, disp := { s.disp with budget := sall 0 } }

/-! ### A sound plan and a sound store -/

/-- The stream plan is sound: descriptor 0 stands fixed in every copy of the plan (R4), the active and the pinned plan
validate (R5, R20), and while a switch is in hand nobody holds the claim and the staged plan validates (R138, R143). -/
structure PlanSound (s : State) : Prop where
  activeZero : sget s.plan.active 0 = systemDescriptor
  stagedZero : sget s.plan.staged 0 = systemDescriptor
  pinnedZero : sget s.holdUp.pinned 0 = systemDescriptor
  activeValid : validate s.plan.active = none
  pinnedValid : validate s.holdUp.pinned = none
  inHandFree : s.switch.engine ≠ .idle → s.plan.holder = none
  inHandValid : s.switch.engine ≠ .idle → validate s.plan.staged = none

/-- The rejoin engine is sound: a stream has a window exactly while it is inbound in the active plan, laid out by R85,
the cell store stands in its canonical form, and each HELD cell at the place that R85 gives its sequence. -/
structure StoreSound (s : State) : Prop where
  windows : ∀ i : StreamIx,
    (windowOf s i).map (fun w => (w.span, w.offset)) =
      if inbound s.role (sget s.plan.active i) then
        some (spanOf (sget s.plan.active i), offsetOf s.role s.plan.active i)
      else none
  store : s.rejoin.store.wf
  placed : ∀ e ∈ s.rejoin.store,
    ∃ w, windowOf s e.2.cell.stream = some w ∧ e.1 = w.offset + e.2.cell.seq.toNat % w.span

/-! ### Copies and windows -/

/-- A window is kept at a switch to the staged plan: inbound there too, with class, span and offset unchanged (R103). -/
abbrev KeepsWindow (s : State) (i : StreamIx) (v : Window) : Prop :=
  inbound s.role (sget s.plan.staged i) = true ∧ (sget s.plan.active i).cls = (sget s.plan.staged i).cls ∧
    v.span = spanOf (sget s.plan.staged i) ∧ v.offset = offsetOf s.role s.plan.staged i

/-- The cells of kept windows that a switch expels and that came on a path: each counts late for it (R99, R104). -/
def expelledOn (s t : State) (p : Path) : CellStore :=
  allStreams.flatMap fun i =>
    match windowOf s i with
    | none => []
    | some v =>
      if KeepsWindow s i v then
        (heldIn s v).filter fun e => decide (e.2.path = p) && (t.rejoin.store.read e.1).isNone
      else []

/-- The next release event that R96 gives a window: the release time of its lowest-sequence held cell, or none. -/
def releaseAfter (s : State) (i : StreamIx) (w : Window) : Option Nat :=
  (lowestHeld s w).map fun h => (h.cell.origin + (sget s.plan.active i).hold * 125) % 65536000

/-- The copy is one of a held cell that the release event of this moment releases: the event stands, the cell's release time
is now, and no held cell below it has a later one (R96, R100). -/
abbrev BeingReleased (s : State) (w : Window) (c : Taken) : Prop :=
  w.next = some s.clock.link ∧
    ∃ h, s.rejoin.store.read (w.offset + c.copy.cell.seq.toNat % w.span) = some h ∧ h.cell.seq = c.copy.cell.seq ∧
      (h.cell.origin + (sget s.plan.active c.copy.cell.stream).hold * 125) % 65536000 = s.clock.link ∧
      ∀ e ∈ heldIn s w, seqDist e.2.cell.seq w.nr < seqDist h.cell.seq w.nr →
        atOrAfter s.clock.link ((e.2.cell.origin + (sget s.plan.active c.copy.cell.stream).hold * 125) % 65536000) = true

/-- What the release of a cell leaves of its stream: the cell's slot is EMPTY, NR is the sequence behind it and the origin mark
its origin time (R98), the gap before it and the cell are counted (R97, R98), and the next release event is that of the lowest
cell then held (R96). In a sound state every other place of the store keeps its cell, but for the cells of the stream that are
overdue as they become the lowest held one, which are expelled and counted late for their stream and path (R99). -/
structure Released (i : StreamIx) (w : Window) (h : Held) (s t : State) : Prop where
  window : windowOf t i = some
    { w with nr := h.cell.seq + 1, originMark := h.cell.origin, next := releaseAfter t i { w with nr := h.cell.seq + 1 } }
  vacated : t.rejoin.store.read (w.offset + h.cell.seq.toNat % w.span) = none
  released : (sget t.rejoin.counts i).released = oneMore (sget s.rejoin.counts i).released
  gap : seqDist h.cell.seq w.nr ≠ 0 →
    Raised kindGap t ∧
      (sget t.rejoin.counts i).gapCells = min 65535 ((sget s.rejoin.counts i).gapCells + seqDist h.cell.seq w.nr)
  others : PlanSound s → StoreSound s →
    (∀ x, x < w.offset ∨ w.offset + w.span ≤ x → t.rejoin.store.read x = s.rejoin.store.read x) ∧
      ∀ e ∈ heldIn s w, e.1 ≠ w.offset + h.cell.seq.toNat % w.span →
        (t.rejoin.store.read e.1 = none ∨ t.rejoin.store.read e.1 = some e.2) ∧
          (t.rejoin.store.read e.1 = none ↔
            ∀ g ∈ heldIn s w, g.1 ≠ w.offset + h.cell.seq.toNat % w.span →
              seqDist g.2.cell.seq (h.cell.seq + 1) ≤ seqDist e.2.cell.seq (h.cell.seq + 1) → overdue t i g.2 = true)
  late : PlanSound s → StoreSound s →
    ((sget s.rejoin.counts i).late ≤ 65535 →
      (sget t.rejoin.counts i).late =
        min 65535 ((sget s.rejoin.counts i).late + ((heldIn s w).length - 1 - (heldIn t w).length))) ∧
      ∀ p, (s.rejoin.arrivals.get p).late ≤ 65535 →
        (t.rejoin.arrivals.get p).late =
          min 65535 ((s.rejoin.arrivals.get p).late +
            ((heldIn s w).filter fun e =>
              decide (e.1 ≠ w.offset + h.cell.seq.toNat % w.span) && decide (e.2.path = p) &&
                (t.rejoin.store.read e.1).isNone).length)

/-- A LATE copy moves its stream's and its path's counter and nothing else (R89, R93). -/
def countedLate (c : Taken) (s : State) : State :=
  { s with
    rejoin :=
      { s.rejoin with
        counts := supd s.rejoin.counts c.copy.cell.stream fun x => { x with late := oneMore x.late }
        arrivals := s.rejoin.arrivals.upd c.path fun x => { x with late := oneMore x.late } } }

/-- An EARLY copy moves its stream's counter and nothing else (R89, R93). -/
def countedEarly (c : Taken) (s : State) : State :=
  { s with
    rejoin :=
      { s.rejoin with
        counts := supd s.rejoin.counts c.copy.cell.stream fun x => { x with early := oneMore x.early } } }

/-! ### Switches -/

/-- A DECLINE is placed and counted, and nothing else changes (R143). -/
def declined (s : State) (e : Epoch) (why : DeclineReason) (verdict : Option Reason) (index : Byte) : State :=
  modSwitch (fun w => { w with declined := oneMore w.declined })
    (place (.decline s.role (e.setWidth 8) why verdict index) s)

/-- A switch in hand ends with an outcome other than DONE, recorded under its tag (R136). -/
def switchFailed (s : State) (p : Pending) (o : Outcome) : State :=
  raise kindSwitchFailed
    { s with
      switch :=
        { s.switch with
          engine := .idle
          last := some { epoch := p.tag, outcome := o, proposer := p.proposer, n := p.n } } }

/-! ### Resets -/

/-- What every reset leaves, whatever its kind, from the plan and the own level that it installs: dispatch empty (R42), the
framers and supervisors of every path with their default settings (R56, R58, R69, R83, R123), W ACTIVE with its idle timer
where the effective level lets it run (R74), the time-source record FREE (R77, R83), the windows laid out and unanchored, the
cell store empty, and a restart marker for each inbound stream but stream 0, in ascending index (R106), the storm unit ON-AIR
with its default settings, no edge taken and no peer heard (R112, R119, R122, R134), both engines idle (R153, R169), the ports empty with the default
ranks (R169, R171, R174, R182), RESTART in every event set, IN-STORM where STORM was restored, every enable set empty (R188). -/
structure Restarted (r : Role) (s t : State) : Prop where
  queue : t.pending = s.pending
  role : t.role = r ∧ t.roleLine = r
  plan : t.plan.staged = t.plan.active ∧ t.plan.holder = none ∧ t.plan.lapseTimer = none ∧ t.plan.lapseSecs = 30
  dispatch : t.disp =
    { nextSeq := sall 0, budget := sall 0, outbox := [], queue := ⟨[], [], []⟩, ingressRefused := sall 0,
      overBudget := sall 0, diversityReduced := sall 0, noPath := sall 0, queueFull := ⟨0, 0, 0⟩, expired := ⟨0, 0, 0⟩,
      purged := ⟨0, 0, 0⟩, outboxFull := 0 }
  framer : ∀ p, t.framer.get p =
    { calmLen := match p with | .a => .l8 | .b => .l8 | .w => .l4
      stormLen := match p with | .a => .l2 | .b => .l2 | .w => .l1
      inUse := (t.framer.get p).inUse
      lastGood := match p with | .a => .l8 | .b => .l8 | .w => .l4
      echo := none, expected := none, parkedMisses := (t.framer.get p).parkedMisses
      tx := { sending := false, nextSlot := (t.framer.get p).tx.nextSlot, closing := false, owed := none }
      rx := none, blocksClean := 0, blocksCorrected := 0, blocksFailed := 0, headerFailures := 0, ownRoleHeaders := 0 }
  sup : ∀ p, t.sup.get p =
    { state := .acquire, enable := true, acqRun := 0, probCount := 0, probMet := (t.sup.get p).probMet, recCount := 0
      missRun := 0, delay := none, lastRtt := none, shelterTimer := none, lastLoss := none
      lastMuting := (t.sup.get p).lastMuting, lastOffset := (t.sup.get p).lastOffset
      staleUntil := (t.sup.get p).staleUntil, probLen := 200, degradeThr := 4
      exposed := match p with | .a => false | .b => true | .w => true
      shelterMs := match p with | .a => 0 | .b => 100 | .w => 200
      probDiscards := 0, alignLosses := 0, samplesDiscarded := 0 }
  radio : t.radio =
    { mode := .active, idleTimer := if t.storm.own = .calm then some 5000000 else none, standbyTimer := none
      warmTimer := none, idleSet := 50, standbySet := 24 }
  time : t.time = { state := .free, source := none, lastError := none, holdShort := none, coincident := 0, clamped := 0 }
  windows : ∀ i, (windowOf t i).map (fun w => (w.anchored, w.next, w.span, w.offset)) =
    if inbound r (sget t.plan.active i) = true then
      some (false, none, spanOf (sget t.plan.active i), offsetOf r t.plan.active i)
    else none
  rejoin : t.rejoin.store = [] ∧ t.rejoin.unknownMessages = 0 ∧
    (∀ i, sget t.rejoin.counts i =
      { released := 0, gapCells := 0, duplicates := 0, upgrades := 0, late := 0, early := 0, stale := 0, strays := 0,
        resyncs := 0, flushed := 0 }) ∧
    ∀ p, t.rejoin.arrivals.get p = { first := 0, upgrades := 0, duplicates := 0, late := 0, unplanned := 0, unaligned := 0 }
  storm : t.storm =
    { fieldPolarity := .high, flashPolarity := .high, surgePolarity := .high, debounceMs := 20, strikeMs := 2000
      stormClearMin := 20, watchClearMin := 10, fieldTaken := false, debounce := some 20000, lastFlash := none
      lastSurge := none, own := t.storm.own, effective := t.storm.own, strikeTimer := none
      stormTimer := if t.storm.own = .storm then some 1200000000 else none
      watchTimer := if t.storm.own = .watch then some 600000000 else none
      peer := .calm, peerParked := false, forgetTimer := none, peerParking := none, parking := .onAir
      flashTaken := 0, flashIgnored := 0, surgeTaken := 0, surgeIgnored := 0, fieldAssertions := 0
      shelters := ⟨0, 0, 0⟩, lastPathKept := ⟨0, 0, 0⟩, peerForgets := 0 }
  level : t.holdUp.levelClass = t.storm.own ∧ t.storm.own ≠ .strike
  switch : t.switch =
    { engine := .idle, run := none, last := none, split := 0, peerEpoch := none, refPath := none, sent := 0, taken := 0
      declined := 0, cancels := 0, lateCancels := 0, strayAnswers := 0 }
  sweep : t.sweep = { engine := .idle, last := none }
  ports : t.ports.ranks = ⟨0, 2, 1⟩ ∧ t.ports.resetPending = none ∧ t.ports.executed = 0 ∧
    ∀ p, t.ports.lp.get p =
      { slot := none, lastFetched := none, number := 0, tunnel := none, tag := 0, dataOut := (t.ports.lp.get p).dataOut
        framesDiscarded := 0, unknownCommands := 0, responsesDiscarded := 0, tunnelsSent := 0, tunnelTimeouts := 0
        lateResponses := 0 }
  events : t.ev =
    { sets := PerReq.of fun _ => if t.storm.own = .storm then kindRestart ||| kindInStorm else kindRestart
      enables := ⟨0, 0, 0⟩, holds := if t.storm.own = .storm then kindInStorm else 0, peerNotice := none }
  egress : t.out.egress = s.out.egress ++
    ((List.finRange 32).filter fun i => decide (i ≠ 0) && inbound r (sget t.plan.active i)).map fun i => .restart i .reset
  lines : t.out.lines = s.out.lines

/-! ### What every sound state keeps -/

/-- What is derived stands as its rule gives it: the effective level (R121), the conditions IN-STORM, PATH-DEGRADED,
HOLD-SHORT and PEER-PARKED (R121, R63, R81, R120), each condition that holds in every requester's event set (R184), the time
source (R78), a MAST's record out of FREE is LOCKED exactly
while it has a source (R78),
the epoch reference path (R152), and a path is in SWEEP exactly while the engine runs on it (R67, R159). -/
structure DerivedSound (s : State) : Prop where
  level : s.storm.effective = higher s.storm.own s.storm.peer
  inStorm : condHolds s kindInStorm = stormy s.storm.effective
  degraded : condHolds s kindPathDegraded = allPaths.any fun p => decide (pstate s p = .degraded)
  holdShort : s.time.holdShort = shortIndex s
  holdShortHolds : condHolds s kindHoldShort = (shortIndex s).isSome
  peerParked : condHolds s kindPeerParked = s.storm.peerParked
  told : ∀ r : Requester, s.ev.holds &&& conditionKinds &&& s.ev.sets.get r = s.ev.holds &&& conditionKinds
  source : s.time.source = if s.role = .mast then firstUp s else none
  locked : s.role = .mast → s.time.state ≠ .free → (s.time.state = .locked ↔ s.time.source.isSome = true)
  refPath : s.switch.refPath = firstUp s
  sweeping : ∀ p, pstate s p = .sweep ↔ ∃ c, s.sweep.engine = .running c ∧ c.path = p
  sweepSafe : ∀ c, s.sweep.engine = .running c →
    stormy s.storm.effective = false ∧ otherEligible s c.path = true

/-- The bounds that the rules set: the capacities of the outbox and the queues (R32, R34), some requester at rank 0
(R174), a link time below M, fewer than 32 completed steps in a sweep in hand (R160). -/
structure WithinLimits (s : State) : Prop where
  outbox : s.disp.outbox.length ≤ outboxCap
  queues : ∀ p, (s.disp.queue.get p).length ≤ queueCap
  ranks : someRankZero s.ports.ranks = true
  link : s.clock.link < linkModulus
  steps : ∀ c, currentOf s.sweep.engine = some c → c.counts.length < sweepSteps

end Sys2Proof.Machine
end

