-- ==== Sys2Proof/Certificates/Slice0/Obligations.lean ====
section
/-! DEFINITION. The statements for the provers. Each docstring names the rules of spec/ that the statement formalises. -/

section Statements

open Sys2Proof Sys2Proof.Machine

/-! ### The machine's step, time, frames and layouts -/

/-- A step with a command in front of the queue is exec of that command on the state with the queue's rest. -/
def Obligations.StepTakesFrontCommand : Prop :=
  ∀ (c : Instr) (rest : List Instr) (s : State), s.pending = c :: rest → step s = exec c { s with pending := rest }

/-- The model's own choice (assumption log 1): with no command waiting, the next event that is due joins the queue and no
time passes; with nothing due and no correction being spread, a microsecond passes on both clocks and on every timer, and
a block whose last slot ends at the instant that has come gets its check bytes (R43). Every timer that runs then has one
microsecond less, one that has run out stays at 0, one that is stopped stays stopped, and nothing else changes with them.
-/
def Obligations.IdleStepOffersOrTicks : Prop :=
  (∀ (s : State) (i : Instr), s.pending = [] → nextDue s = some i → step s = .next { s with pending := [i] }) ∧
  (∀ s : State, s.pending = [] → nextDue s = none → s.clock.owed = 0 → s.clock.slew = none →
    step s = .next (sendChecks (tickTimers
      { s with
        clock :=
          { ref := s.clock.ref + 1, link := (s.clock.link + 1) % 65536000, slew := none, owed := 0, rolled := false,
            started := false } }))) ∧
  (∀ s : State, ∃ t : State,
    tickTimers s = t ∧
      t = { s with plan := t.plan, radio := t.radio, sup := t.sup, storm := t.storm, ports := t.ports } ∧
      t.plan = { s.plan with lapseTimer := t.plan.lapseTimer } ∧ Ticked s.plan.lapseTimer t.plan.lapseTimer ∧
      t.radio =
        { s.radio with
          idleTimer := t.radio.idleTimer, standbyTimer := t.radio.standbyTimer, warmTimer := t.radio.warmTimer } ∧
      Ticked s.radio.idleTimer t.radio.idleTimer ∧ Ticked s.radio.standbyTimer t.radio.standbyTimer ∧
      Ticked s.radio.warmTimer t.radio.warmTimer ∧
      (∀ p, t.sup.get p = { s.sup.get p with shelterTimer := (t.sup.get p).shelterTimer } ∧
        Ticked (s.sup.get p).shelterTimer (t.sup.get p).shelterTimer) ∧
      t.storm =
        { s.storm with
          debounce := t.storm.debounce, strikeTimer := t.storm.strikeTimer, stormTimer := t.storm.stormTimer,
          watchTimer := t.storm.watchTimer, forgetTimer := t.storm.forgetTimer } ∧
      Ticked s.storm.debounce t.storm.debounce ∧ Ticked s.storm.strikeTimer t.storm.strikeTimer ∧
      Ticked s.storm.stormTimer t.storm.stormTimer ∧ Ticked s.storm.watchTimer t.storm.watchTimer ∧
      Ticked s.storm.forgetTimer t.storm.forgetTimer ∧ t.ports = { s.ports with lp := t.ports.lp } ∧
      ∀ p, t.ports.lp.get p = { s.ports.lp.get p with tunnel := (t.ports.lp.get p).tunnel } ∧
        ((s.ports.lp.get p).tunnel = none → (t.ports.lp.get p).tunnel = none) ∧
        ∀ x, (s.ports.lp.get p).tunnel = some x →
          ∃ n, (t.ports.lp.get p).tunnel = some { x with timeout := n } ∧ Ticked (some x.timeout) (some n)) ∧
  ∀ s : State,
    sendChecks s =
        { s with framer := (sendChecks s).framer, out := { s.out with lines := (sendChecks s).out.lines } } ∧
      ∀ p,
        (∀ j, s.clock.link % 1000 = (s.framer.get p).tx.nextSlot * pitchOf p % 1000 → (s.framer.get p).tx.owed = some j →
          (sendChecks s).framer.get p = { s.framer.get p with tx := { (s.framer.get p).tx with owed := none } } ∧
            (sendChecks s).out.lines.get p = s.out.lines.get p ++ [.check j]) ∧
        (s.clock.link % 1000 ≠ (s.framer.get p).tx.nextSlot * pitchOf p % 1000 ∨ (s.framer.get p).tx.owed = none →
          (sendChecks s).framer.get p = s.framer.get p ∧ (sendChecks s).out.lines.get p = s.out.lines.get p)

/-- R26, R75, R76, R78, R79, R80. A GOOD header in a state that tracks headers gives the path a delay sample: nothing with
echo valid clear; discarded and counted when its echo is stale (assumption log 44) or its round trip is outside 0 to
20,000 µs; otherwise the estimate becomes RTT × 4 or moves an eighth of the way. On an UP source path of the MAST a FREE
record becomes LOCKED: link time steps by the error, the budget counts are 0, the queues are emptied with every copy
counted in its path's purged counter (R26), and every transmitting half stops. A LOCKED record starts a correction of the
error clamped to −2 to +2 µs; any other header sets nothing, one taken in HOLDOVER included. A LOCKED record whose source
is switched OFF passes to the next UP path or enters HOLDOVER, where link time runs freely; a record in HOLDOVER is LOCKED
again once a path is UP; both raise TIME-SOURCE. A correction of c µs is spread over 1,000 µs of the reference clock: then
it has ended, and link time has advanced by 1,000 + c, what is still owed counted. That the sample comes ahead of the
alignment, and that the source is the one before the header, is the model's choice (assumption log 25), and so is that a
record stays LOCKED, with no HOLDOVER between, where the loss of its source brings a swept path back to UP (assumption log
38). That the instant of a setting is no superframe start, so that the first header is that of the next multiple of 1,000
even where link time lands on one (assumption log 22), and that HOLDOVER drops a correction (assumption log 32), is read
from the spec by inference. -/
def Obligations.LinkTimeFollowsTheSource : Prop :=
  (∀ (p : Path) (a : HeaderArrival) (rtt : Int) (s : State), Tracked s p →
    inWindow (s.framer.get p) a.arrivalRef = true → headerGood s a = true →
    rtt = (tsub a.arrivalLink a.header.echoOf.toNat : Int) - (a.header.turnaround.toNat : Int) →
    ∃ t : State,
      exec (.headerReceived p a) s = .next t ∧
        (a.header.echoValid = false →
          ((t.sup.get p).delay, (t.sup.get p).lastRtt, (t.sup.get p).samplesDiscarded) =
            ((s.sup.get p).delay, (s.sup.get p).lastRtt, (s.sup.get p).samplesDiscarded)) ∧
        (a.header.echoValid = true → EchoIsStale s p a ∨ rtt < 0 ∨ 20000 < rtt →
          ((t.sup.get p).delay, (t.sup.get p).lastRtt, (t.sup.get p).samplesDiscarded) =
            ((s.sup.get p).delay, (s.sup.get p).lastRtt, oneMore (s.sup.get p).samplesDiscarded)) ∧
        (a.header.echoValid = true → ¬EchoIsStale s p a → 0 ≤ rtt → rtt ≤ 20000 →
          ((t.sup.get p).delay, (t.sup.get p).lastRtt, (t.sup.get p).samplesDiscarded) =
            (some (match (s.sup.get p).delay with
              | none => rtt.toNat * 4
              | some d => ((d : Int) + (rtt * 4 - (d : Int)) / 8).toNat),
              some rtt.toNat, (s.sup.get p).samplesDiscarded))) ∧
  (∀ (p : Path) (a : HeaderArrival) (s : State), s.role = .mast → s.time.source = some p → pstate s p = .up →
    inWindow (s.framer.get p) a.arrivalRef = true → headerGood s a = true → (s.sup.get p).delay ≠ none →
    1 ≤ (s.sup.get p).degradeThr → s.time.state ≠ .holdover →
    ∃ (t : State) (d : Nat) (e : Int),
      exec (.headerReceived p a) s = .next t ∧ (t.sup.get p).delay = some d ∧
        e = signedSub (tadd a.header.sendTime.toNat ((d + 4) / 8)) a.arrivalLink ∧ t.time.state = .locked ∧
        t.time.lastError = some e ∧
        (s.time.state = .free →
          t.clock =
              { s.clock with link := tmove s.clock.link e, slew := none, owed := 0, rolled := true, started := true } ∧
            (∀ i, sget t.disp.budget i = 0) ∧
            ∀ q, Purged s t q ∧ (t.framer.get q).tx.sending = false ∧
              (t.sup.get q).staleUntil = some
                { first := (tmove s.clock.link e / 1000 * 1000 + 1000) % 65536000, instant := s.clock.ref }) ∧
        (s.time.state = .locked →
          t.clock = { s.clock with slew := some { c := max (-2) (min 2 e), spent := 0 } } ∧
            t.time.clamped = if e < -2 ∨ 2 < e then oneMore s.time.clamped else s.time.clamped)) ∧
  (∀ (p : Path) (a : HeaderArrival) (s : State), s.role = .truck ∨ s.time.source ≠ some p →
    ∃ t : State,
      exec (.headerReceived p a) s = .next t ∧ (t.clock.ref, t.clock.link) = (s.clock.ref, s.clock.link) ∧
        t.time.lastError = s.time.lastError) ∧
  (∀ (p : Path) (a : HeaderArrival) (s : State), s.role = .mast → s.time.state = .holdover → s.time.source = none →
    ∃ t : State,
      exec (.headerReceived p a) s = .next t ∧ (t.clock.ref, t.clock.link) = (s.clock.ref, s.clock.link) ∧
        t.time.lastError = s.time.lastError ∧ t.time.state = (if t.time.source = none then .holdover else .locked) ∧
        (t.time.source ≠ none → Raised kindTimeSource t)) ∧
  (∀ (src : Source) (b v : Byte) (p : Path) (s : State), Passes 24 1 src s → pathOf b = some p → v = 0 →
    s.role = .mast → s.time.state = .locked → s.time.source = some p → firstUp s = some p →
    ∃ u : State,
      exec (.pathEnable src b v) s = .next (respond src 24 (bare .done) (received src s) u) ∧
        u.time.source = firstUp u ∧ u.time.source ≠ some p ∧ u.time.lastError = s.time.lastError ∧ Raised kindTimeSource u ∧
        (firstUp u = none → u.time.state = .holdover ∧ u.clock = { s.clock with slew := none }) ∧
        (firstUp u ≠ none → u.time.state = .locked ∧ u.clock = s.clock)) ∧
  ∀ (k : Clock) (c : Int), -2 ≤ c → c ≤ 2 → k.slew = some { c := c, spent := 0 } → k.owed = 0 →
    (tickClock^[1000] k).slew = none ∧ (tickClock^[1000] k).ref = k.ref + 1000 ∧
      tadd (tickClock^[1000] k).link (tickClock^[1000] k).owed = tmove (k.link + 1000) c

/-- Section 9.6: the frame written for a command is read back as that command, with every argument and every optional
setting at every value, on either port. That a TUNNEL's frame may carry an inner length of 0 or of 225 to 255 is the model's
choice (assumption log 40). -/
def Obligations.CommandFramesReadBack : Prop :=
  ∀ (p : Port) (r : Request), r.wf = true →
    parseFrame (encodeRequest r) = .request r ∧ stepOfFrame p (encodeRequest r) = some (commandOf p r)

/-- Section 2.3: the payload written for a message that a terminal sends has 240 bytes and is read back as that
message. -/
def Obligations.MessagesReadBack : Prop :=
  ∀ m : Message, m.Sendable → (messagePayload m).length = 240 ∧ messageOf (messagePayload m) = some m

/-- Section 2.3 and R143: a descriptor in range survives the wire, through its 40 bits too; a received one is undefined
exactly where its class is above 5, its direction 3, its mode above 4, its stagger above 160, or its hold outside 4 to
320. -/
def Obligations.WireDescriptorsReadBack : Prop :=
  (∀ d : Descriptor, d.InRange → descriptorOf (wireOf d) = some d) ∧
  (∀ w : WireDesc, wireOfBits (wireBits w) = w) ∧
  ∀ w : WireDesc, descriptorOf w = none ↔
    5 < w.cls.toNat ∨ w.direction = 3 ∨ 4 < w.mode.toNat ∨ 160 < w.stagger.toNat ∨ w.hold.toNat < 4 ∨ 320 < w.hold.toNat

/-- Section 3.7: a superframe header's fourteen bytes and a cell's sixteen header bytes are read back as what they were
written from. -/
def Obligations.HeadersReadBack : Prop :=
  (∀ h : Header, (headerBytes h).length = 14 ∧ headerOfBytes (headerBytes h) = some h) ∧
  ∀ c : Cell, c.wf = true → (cellHeaderBytes c).length = 16 ∧ cellOfBytes (cellHeaderBytes c) c.payload = some c

/-- R19, R18, R2, R3: a plan validates exactly when every present descriptor passes the four rules CLASS-MODE, PATH,
STAGGER and SPAN and the spans of the present descriptors fit the cell store in both directions. Otherwise its verdict
names the lowest index that fails, with the first rule that it fails there in the order CLASS-MODE, PATH, STAGGER, SPAN,
STORE; a descriptor's span joins the totals after the other four. The validity table of class and mode, the budget and the
span are stated too, the span as the smallest power of two that is at least 16 and the budget times the superframes held.
-/
def Obligations.ValidationAcceptsExactly : Prop :=
  (∀ plan : Plan, validate plan = none ↔
    (∀ i : StreamIx, (sget plan i).present = true →
      (classModeOk (sget plan i).cls (sget plan i).mode = true ∧
          (i ≠ 0 → (sget plan i).cls ≠ .system ∧ (sget plan i).direction ≠ .both)) ∧
        ((sget plan i).mode = .triple ∨ (sget plan i).preferred ≠ none) ∧
        (staggered (sget plan i).mode = true → (sget plan i).stagger ≠ 0 ∧ (sget plan i).stagger + 4 ≤ (sget plan i).hold) ∧
        spanOf (sget plan i) ≤ 4096) ∧
    (allStreams.map fun i =>
        if (sget plan i).present = true ∧ (sget plan i).direction ≠ .down then spanOf (sget plan i) else 0).sum ≤ 8192 ∧
    (allStreams.map fun i =>
        if (sget plan i).present = true ∧ (sget plan i).direction ≠ .up then spanOf (sget plan i) else 0).sum ≤ 8192) ∧
  (∀ (plan : Plan) (why : Reason) (n : Nat), validate plan = some (why, n) ↔
    ∃ k : StreamIx, k.val = n ∧ (sget plan k).present = true ∧ FirstFault plan k why ∧
      ∀ j < k, (sget plan j).present = true → ∀ x, ¬FirstFault plan j x) ∧
  (∀ (c : StreamClass) (m : DivMode), classModeOk c m = false ↔
    (c = .programme ∧ m = .single) ∨ (c = .talk ∧ (m = .dualStagger ∨ m = .escalate)) ∨ (c = .system ∧ m ≠ .triple)) ∧
  ∀ d : Descriptor, d.InRange →
    budgetOf d = (match d.granularity with | .fine => d.budgetRaw | .coarse => d.budgetRaw * 4 + 3) ∧
      ∃ k, 4 ≤ k ∧ spanOf d = 2 ^ k ∧ budgetOf d * ((d.hold * 125 + 999) / 1000 + 1) ≤ 2 ^ k ∧
        (4 < k → 2 ^ (k - 1) < budgetOf d * ((d.hold * 125 + 999) / 1000 + 1))

/-! ### The ports -/

/-- R170: a frame with bytes too many, or cut short anywhere behind its code, is discarded and counted, with no response; a
code that names no command is answered UNKNOWN-COMMAND and counted, whatever follows it; a frame of no bytes is ignored. -/
def Obligations.FramesThatAreNoCommand : Prop :=
  (∀ (r : Request) (b : Byte) (bs : List Byte), r.wf = true → r ≠ .fetch →
    parseFrame (encodeRequest r ++ b :: bs) = .discarded) ∧
  (∀ (r : Request) (n : Nat), r.wf = true → 1 ≤ n → n < (encodeRequest r).length →
    parseFrame ((encodeRequest r).take n) = .discarded) ∧
  parseFrame [] = .ignored ∧
  (∀ (code : Byte) (bs : List Byte), code = 0 ∨ 35 ≤ code.toNat → parseFrame (code :: bs) = .unknown code) ∧
  (∀ (p : Port) (s : State), exec (.frameDiscarded p) s =
    .next (modPort p (fun x => { x with framesDiscarded := oneMore x.framesDiscarded }) s)) ∧
  ∀ (p : Port) (code : Byte) (s : State), code = 0 ∨ 35 ≤ code.toNat →
    exec (.unknownCommand p code) s =
      .next (placeRecord p (recordOf code (bare .unknownCommand))
        (modPort p (fun x => { x with unknownCommands := oneMore x.unknownCommands }) s))

/-- R173: the checks at the port, in their order, for every command that has a response: PARKED, TUNNEL-PENDING, BUSY,
RANK. A command that fails one has no other effect than its response; that such an edit, CLAIM or COMMIT of the holder
does not restart the lapse timer is the model's choice (assumption log 36). -/
def Obligations.PortChecksComeInOrder : Prop :=
  ∀ (i : Instr) (code : Byte) (need : Nat) (src : Source) (s : State), portRow i = some (code, need, src) →
    (isParked s = true → code ≠ 2 → code ≠ 30 →
      exec i s = .next (respond src code (bare .parked) (received src s) (received src s))) ∧
    (isParked s = false ∨ code = 30 → tunnelOut s src = true → code ≠ 2 →
      exec i s = .next (respond src code (bare .tunnelPending) (received src s) (received src s))) ∧
    (isParked s = false ∨ code = 30 → tunnelOut s src = false → s.ports.resetPending ≠ none → code ≠ 2 →
      localReset code src = false → exec i s = .next (respond src code (bare .busy) (received src s) (received src s))) ∧
    (isParked s = false ∨ code = 2 ∨ code = 30 → tunnelOut s src = false ∨ code = 2 →
      s.ports.resetPending = none ∨ code = 2 ∨ localReset code src = true → need < effectiveRank s src →
      exec i s = .next (respond src code (bare .rank) (received src s) (received src s)))

/-- R171: a response to a local port goes into its slot, unfetched, under the next response number, and READY is high; an
unfetched record that it replaces is counted as discarded. Nothing else of the terminal changes. The record echoes the
command's code, gives the status by its number of section 9.6, and has the note flag exactly where fields were clamped. -/
def Obligations.LocalResponseFillsTheSlot : Prop :=
  (∀ (p : Port) (code : Byte) (a : Answer) (before s : State),
    respond (.lp p) code a before s =
        modPort p (fun x =>
          { x with
            slot := some ({ recordOf code a with number := x.number + 1 }, false)
            number := x.number + 1
            responsesDiscarded := if ready s p = true then oneMore x.responsesDiscarded else x.responsesDiscarded }) s ∧
      ready (respond (.lp p) code a before s) p = true) ∧
  ∀ (code : Byte) (a : Answer),
    (recordOf code a).status.toNat = statusNumber a.status ∧
      recordOf code a =
        { code := code, status := (recordOf code a).status, tunnelled := false, repeated := false
          noted := decide (a.note ≠ []), number := 0, note := a.note, body := a.body }

/-- R177: a response to PT is cut into parts of 224 bytes, the last with what is left, that together are the record's
bytes; the record is that of a local port with its tunnelled flag set, and of its response number, a free value
(assumption log 4), nothing is said; only the last is marked; the parts stand in the outbox behind what it held when the
command was taken and ahead of what the command's own work placed. That a NOTICE which the command's effect brings comes
behind them too is read from the spec by inference (assumption log 34). -/
def Obligations.TunnelledResponseGoesInParts : Prop :=
  (∀ (code : Byte) (a : Answer) (s : State),
    recordForPt code a s =
      { recordOf code a with tunnelled := true, number := (recordForPt code a s).number }) ∧
  ∀ (far : Port) (rank tag code : Byte) (a : Answer) (before after : State) (own : List OutMsg),
    after.disp.outbox = before.disp.outbox ++ own →
    (recordBytes (recordForPt code a before)).length ≤ 1120 →
    before.disp.outbox.length + 5 + own.length ≤ 32 →
    ∃ ds : List (List Byte),
      ds.flatten = recordBytes (recordForPt code a before) ∧ ds ≠ [] ∧ ds.length ≤ 5 ∧
        (∀ d ∈ ds.dropLast, d.length = 224) ∧ (∀ d ∈ ds, 0 < d.length ∧ d.length ≤ 224) ∧
        (respond (.pt far rank tag) code a before after).disp.outbox =
          before.disp.outbox ++
            (ds.mapIdx fun n d =>
              { msg := .tunnelResponse before.role far tag (BitVec.ofNat 8 n) (decide (n + 1 = ds.length)) d, awaited := .no }) ++
            own

/-- R172: FETCH gives the unfetched record and marks it fetched, so READY is low; without one it gives the record fetched
last with its repeated flag set, and before any fetch a record of zeros. It changes nothing else. What is clocked out are
the record's bytes, and zeros beyond its end. A record's bytes are those of section 9.6: the code, the status, the flags,
the response number, two bytes of body length and the body, which the clamped-fields note opens. How many bytes a field of
a body takes, the form of an absent value and that of the note are the model's choice (assumption log 7). That the empty
record's flags and response number are 0 is the model's choice (assumption log 49). -/
def Obligations.FetchGivesTheRecord : Prop :=
  (∀ (p : Port) (s : State),
    (∀ r, (s.ports.lp.get p).slot = some (r, false) →
      exec (.fetch p) s =
        .next (modPort p (fun x => { x with slot := some (r, true), lastFetched := some r, dataOut := some r }) s)) ∧
    (∀ r, ready s p = false → (s.ports.lp.get p).lastFetched = some r →
      exec (.fetch p) s = .next (modPort p (fun x => { x with dataOut := some { r with repeated := true } }) s)) ∧
    (ready s p = false → (s.ports.lp.get p).lastFetched = none →
      exec (.fetch p) s = .next (modPort p (fun x => { x with dataOut := some emptyRecord }) s)) ∧
    recordBytes emptyRecord = List.replicate 6 0 ∧
    ∀ (x : PortState) (r : Record) (n : Nat), x.dataOut = some r →
      ((recordBytes r).length ≤ n → dataOutByte x n = 0) ∧
        ∀ b, (recordBytes r)[n]? = some b → dataOutByte x n = b) ∧
  (∀ r : Record,
    recordBytes r =
        [r.code, r.status,
          BitVec.ofNat 8
            ((if r.tunnelled = true then 128 else 0) + (if r.repeated = true then 64 else 0) +
              (if r.noted = true then 32 else 0)),
          r.number, BitVec.ofNat 8 ((bodyBytes r).length / 256), BitVec.ofNat 8 (bodyBytes r).length] ++ bodyBytes r ∧
      (r.note = [] → bodyBytes r = (bodyFields r.body).flatMap fieldBytes) ∧
      (r.note ≠ [] →
        bodyBytes r =
          BitVec.ofNat 8 r.note.length ::
            (r.note.map fun c =>
              match c with
              | .stagger => 0 | .hold => 1 | .budgetRaw => 2 | .priority => 3 | .lapse => 4 | .probation => 5
              | .degrade => 6 | .count => 7 | .debounce => 8 | .strikeTime => 9 | .stormClear => 10 | .watchClear => 11
              | .shelter => 12 | .lead => 13) ++ (bodyFields r.body).flatMap fieldBytes)) ∧
  bodyFields .none = [] ∧ bodyFields (.holder none) = [⟨1, 0⟩] ∧ bodyFields (.holder (some .lp1)) = [⟨1, 1⟩, ⟨1, 0⟩] ∧
  bodyFields (.holder (some .lp2)) = [⟨1, 1⟩, ⟨1, 1⟩] ∧ bodyFields (.holder (some .pt)) = [⟨1, 1⟩, ⟨1, 2⟩] ∧
  (∀ i : Nat, bodyFields (.index i) = [⟨1, i⟩]) ∧
  (∀ (r : Reason) (i : Nat),
    bodyFields (.verdict r i) =
      [⟨1, match r with | .classMode => 1 | .path => 2 | .stagger => 3 | .span => 4 | .store => 5 | .field => 6⟩, ⟨1, i⟩]) ∧
  (∀ (e : Epoch) (n : SfNum), bodyFields (.proposal e n) = [⟨1, e.toNat⟩, ⟨2, n.toNat⟩]) ∧
  (∀ (values : List Nat) (readings : List Field),
    bodyFields (.counters values readings) = (values.map fun n => ⟨2, n⟩) ++ readings) ∧
  (∀ left stayed : KindSet, bodyFields (.cleared left stayed) = [⟨4, left.toNat⟩, ⟨4, stayed.toNat⟩]) ∧
  ∀ (set enables both holds : KindSet) (peer : Option KindSet),
    bodyFields (.events set enables both holds peer) =
      [⟨4, set.toNat⟩, ⟨4, enables.toNat⟩, ⟨4, both.toNat⟩, ⟨4, holds.toNat⟩] ++
        (match peer with | none => [⟨1, 0⟩] | some k => [⟨1, 1⟩, ⟨4, k.toNat⟩])

/-- R175, R135, R185, R186, R168, R155: STATUS, READ-EVENTS, READ-SWEEP and READ-SWITCH answer DONE with the body their
rules list, and change nothing but what the response itself takes. STATUS's storm part gives the levels, the FIELD taken
state, the running timers, the parking state, what is known of the peer, the strike counter and the last reset cause; its
event part gives the asking requester's sets with their intersection, the kinds that hold and, at a local port, the
ATTENTION level. -/
def Obligations.ReadingsAnswerWithoutEffect : Prop :=
  (∀ (src : Source) (s : State), effectiveRank s src ≤ 255 →
    ∃ r : StatusReading,
      exec (.status src) s = .next (respond src 2 (reading (.status r)) (received src s) (received src s)) ∧
        r.role = s.role ∧ r.cause = s.holdUp.cause ∧ r.ranks = s.ports.ranks ∧ r.holder = s.plan.holder ∧
        r.engine = engineName s.switch.engine ∧ r.epoch = s.plan.epoch ∧ r.sweep = sweepName s.sweep.engine ∧
        (∀ p, r.paths.get p = (s.sup.get p).state) ∧ r.power = s.radio.mode ∧ r.timeState = s.time.state ∧
        r.resetPending = s.ports.resetPending.isSome ∧
        (∀ p, src = .lp p → r.tunnel = ((s.ports.lp.get p).tunnel).map fun t => (t.tag, t.timeout)) ∧
        ((∀ p, src ≠ .lp p) → r.tunnel = none) ∧
        (r.storm.own, r.storm.peer, r.storm.effective, r.storm.fieldTaken) =
          (s.storm.own, s.storm.peer, s.storm.effective, s.storm.fieldTaken) ∧
        (r.storm.debounce, r.storm.strikeTimer, r.storm.stormTimer, r.storm.watchTimer, r.storm.forgetTimer) =
          (s.storm.debounce, s.storm.strikeTimer, s.storm.stormTimer, s.storm.watchTimer, s.storm.forgetTimer) ∧
        r.storm.parking = (match s.storm.parking with | .onAir => .onAir | .parking _ => .parking | .parked => .parked) ∧
        (r.storm.peerParked, r.storm.peerParking, r.storm.strikes, r.storm.cause) =
          (s.storm.peerParked, s.storm.peerParking, s.holdUp.strikes, s.holdUp.cause) ∧
        (r.events.set, r.events.enables) =
          (s.ev.sets.get (requesterOfSource src), s.ev.enables.get (requesterOfSource src)) ∧
        r.events.both = r.events.set &&& r.events.enables ∧ r.events.holds = s.ev.holds ∧
        (∀ p, src = .lp p → ∃ high, r.events.attention = some high ∧ (high = true ↔ r.events.both ≠ 0)) ∧
        ((∀ p, src ≠ .lp p) → r.events.attention = none)) ∧
  (∀ (src : Source) (s : State), Passes 18 anyRank src s →
    exec (.readEvents src) s =
      .next (respond src 18
        (reading (.events (s.ev.sets.get (requesterOfSource src)) (s.ev.enables.get (requesterOfSource src))
          (s.ev.sets.get (requesterOfSource src) &&& s.ev.enables.get (requesterOfSource src)) s.ev.holds s.ev.peerNotice))
        (received src s) (received src s))) ∧
  (∀ (src : Source) (s : State), Passes 21 anyRank src s →
    exec (.readSweep src) s =
      .next (respond src 21
        (reading (.sweep (sweepName s.sweep.engine)
          ((currentOf s.sweep.engine).map fun c =>
            { path := c.path, step := c.counts.length, taken := c.taken, grade := c.counts.length, counts := c.counts })
          s.sweep.last))
        (received src s) (received src s))) ∧
  ∀ (src : Source) (s : State), Passes 22 anyRank src s →
    exec (.readSwitch src) s =
      .next (respond src 22
        (reading (.switch
          { engine := engineName s.switch.engine
            pending := (inHand s.switch.engine).map fun p => (p, (p.n - currentSuperframe s).toNat)
            run := s.switch.run.map fun r => (r.epoch, r.last)
            last := s.switch.last
            epoch := s.plan.epoch
            refPath := s.switch.refPath
            peerEpoch := s.switch.peerEpoch
            split := s.switch.split
            holds := condHolds s kindEpochSplit }))
        (received src s) (received src s))

/-- R8, R82, R111: READ-STREAM, READ-PATH and READ-WINDOW answer DONE with the readings their rules list, or BAD-ARGUMENT
where an index, a copy or a path is undefined or the stream has no window, and change nothing but what the response
itself takes. -/
def Obligations.StreamPathAndWindowReadings : Prop :=
  (∀ (src : Source) (index copy : Byte) (i : StreamIx) (c : PlanCopy) (s : State), Passes 14 anyRank src s →
    streamOf index = some i → copyOf copy = some c →
    ∃ r : StreamReading,
      exec (.readStream src index copy) s =
          .next (respond src 14 (reading (.stream r)) (received src s) (received src s)) ∧
        (r.present, r.cls, r.direction, r.editRank, r.mode, r.hold, r.budgetRaw, r.granularity, r.priority) =
          ((copyDescriptor s c i).present, (copyDescriptor s c i).cls, (copyDescriptor s c i).direction,
            (copyDescriptor s c i).editRank, (copyDescriptor s c i).mode, (copyDescriptor s c i).hold,
            (copyDescriptor s c i).budgetRaw, (copyDescriptor s c i).granularity, (copyDescriptor s c i).priority) ∧
        ((copyDescriptor s c i).mode ≠ .triple → r.preferred = (copyDescriptor s c i).preferred) ∧
        r.stagger = (if staggered (copyDescriptor s c i).mode = true then some (copyDescriptor s c i).stagger else none) ∧
        r.budget = budgetOf (copyDescriptor s c i) ∧
        r.span = (if (copyDescriptor s c i).present = true then some (spanOf (copyDescriptor s c i)) else none) ∧
        (c = .active → r.copy = .active s.plan.epoch (runsOut s.role (copyDescriptor s c i).direction)
          (runsIn s.role (copyDescriptor s c i).direction)) ∧
        (c = .staged → r.copy = .staged s.plan.holder) ∧
        (c = .pinned → r.copy = .pinned s.holdUp.pinnedEpoch s.holdUp.pinnedFlag)) ∧
  (∀ (src : Source) (index copy : Byte) (s : State), Passes 14 anyRank src s → 32 ≤ index.toNat ∨ 3 ≤ copy.toNat →
    exec (.readStream src index copy) s =
      .next (respond src 14 (bare .badArgument) (received src s) (received src s))) ∧
  (∀ (src : Source) (b : Byte) (p : Path) (s : State), Passes 16 anyRank src s → pathOf b = some p →
    exec (.readPath src b) s =
      .next (respond src 16
        (reading (.path
          { state := (s.sup.get p).state, enable := (s.sup.get p).enable, acqRun := (s.sup.get p).acqRun,
            probCount := (s.sup.get p).probCount, recCount := (s.sup.get p).recCount, missRun := (s.sup.get p).missRun,
            delay := (s.sup.get p).delay, lastRtt := (s.sup.get p).lastRtt, probLen := (s.sup.get p).probLen,
            degradeThr := (s.sup.get p).degradeThr, shelterTimer := (s.sup.get p).shelterTimer,
            calmLen := (s.framer.get p).calmLen, stormLen := (s.framer.get p).stormLen, inUse := (s.framer.get p).inUse,
            lastGood := (s.framer.get p).lastGood,
            power := if p = .w then some (s.radio.mode, s.radio.idleTimer, s.radio.standbyTimer, s.radio.warmTimer) else none,
            timeState := s.time.state, source := s.time.source, lastError := s.time.lastError,
            holdShort := s.time.holdShort }))
        (received src s) (received src s))) ∧
  (∀ (src : Source) (b : Byte) (s : State), Passes 16 anyRank src s → 3 ≤ b.toNat →
    exec (.readPath src b) s = .next (respond src 16 (bare .badArgument) (received src s) (received src s))) ∧
  (∀ (src : Source) (index : Byte) (i : StreamIx) (start : Seq) (count : Byte) (w : Window) (s : State),
    Passes 15 anyRank src s → streamOf index = some i → windowOf s i = some w →
    ∃ r : WindowReading,
      exec (.readWindow src index start count) s =
          .next (respond src 15
            { status := .done, note := if 1 ≤ count.toNat ∧ count.toNat ≤ 16 then [] else [.count], body := .window r }
            (received src s) (received src s)) ∧
        (r.anchored, r.nr, r.originMark, r.strayRun, r.span, r.offset) =
          (w.anchored, w.nr, w.originMark, w.strayRun, w.span, w.offset) ∧
        r.heldCells = (heldIn s w).length ∧
        (∀ n h, w.next = some n → lowestHeld s w = some h → r.next = some (n, h.cell.seq)) ∧
        (w.next = none ∨ lowestHeld s w = none → r.next = none) ∧ r.slots.length = max 1 (min 16 count.toNat) ∧
        ∀ k q, k < r.slots.length → q = start + BitVec.ofNat 16 k →
          ∃ x, r.slots[k]? = some x ∧ x.seq = q ∧ x.slot = q.toNat % w.span ∧ x.place = w.offset + q.toNat % w.span ∧
            x.held = ((s.rejoin.store.read (w.offset + q.toNat % w.span)).map fun h =>
              { seq := h.cell.seq, path := h.path, copyIndex := h.cell.copyIndex, quality := h.quality,
                arrival := h.arrival, origin := h.cell.origin, release := releaseTime s i h.cell.origin })) ∧
  ∀ (src : Source) (index : Byte) (start : Seq) (count : Byte) (s : State), Passes 15 anyRank src s →
    (∀ i, streamOf index = some i → windowOf s i = none) →
    exec (.readWindow src index start count) s =
      .next (respond src 15 (bare .badArgument) (received src s) (received src s))

/-- R41, R57, R82, R109, R110, R135, R156, R182: READ-COUNTERS answers DONE with the group's counters and readings, which
are those of the group's table. Without the clear option it changes nothing but what the response takes; with it every
counter of the group is set to 0 with the reading, and the group's other readings, every other group and everything else
in the terminal are unchanged. That an absent option does not clear is read from the spec by inference (assumption log
26); the order of the counters and readings, the width of a reading and the number of a reset cause are those of
assumption log 7; three orders are the model's choice (assumption log 41): a request from PT counts itself ahead of the
reading and the clear; an unfetched record that the response replaces is counted behind them, so that 'responses
discarded' of that port stands at 1 after a clear of the ports group; and so are parts of a response to PT that a full
outbox discards, so that 'outbox full' is their number after a clear of the dispatch group. -/
def Obligations.ReadCountersAndClear : Prop :=
  (∀ (src : Source) (a : CounterArgs) (g : CounterGroup) (s : State), Passes 17 anyRank src s → a.badPresence = false →
    groupOf a.group = some g → a.clear = none ∨ a.clear = some 0 →
    exec (.readCounters src a) s =
      .next (respond src 17 (reading (groupReading (received src s) g)) (received src s) (received src s))) ∧
  (∀ (src : Source) (a : CounterArgs) (g : CounterGroup) (s : State), Passes 17 anyRank src s → a.badPresence = false →
    groupOf a.group = some g → a.clear = some 1 →
    exec (.readCounters src a) s =
      .next (respond src 17 (reading (groupReading (received src s) g)) (received src s) (clearGroup (received src s) g))) ∧
  (∀ (src : Source) (a : CounterArgs) (s : State), Passes 17 anyRank src s →
    a.badPresence = true ∨ 7 ≤ a.group.toNat ∨ (∃ b, a.clear = some b ∧ 2 ≤ b.toNat) →
    exec (.readCounters src a) s = .next (respond src 17 (bare .badArgument) (received src s) (received src s))) ∧
  (∀ s : State,
    groupReading s .dispatch =
        .counters
          (eachStream (sget s.disp.ingressRefused) ++ eachStream (sget s.disp.overBudget) ++
            eachStream (sget s.disp.diversityReduced) ++ eachStream (sget s.disp.noPath) ++ eachPath s.disp.queueFull.get ++
            eachPath s.disp.expired.get ++ eachPath s.disp.purged.get ++ [s.disp.outboxFull])
          ((eachStream fun i => { bytes := 2, value := (sget s.disp.nextSeq i).toNat }) ++
            (eachStream fun i => { bytes := 1, value := sget s.disp.budget i }) ++
            [{ bytes := 1, value := s.disp.outbox.length }] ++
            eachPath fun p => { bytes := 2, value := (s.disp.queue.get p).length }) ∧
      groupReading s .framing =
        .counters
          ((eachPath s.framer.get).flatMap fun f =>
            [f.blocksClean, f.blocksCorrected, f.blocksFailed, f.headerFailures, f.ownRoleHeaders]) [] ∧
      groupReading s .supervision =
        .counters
          ((eachPath fun p => (s.sup.get p).probDiscards) ++ (eachPath fun p => (s.sup.get p).alignLosses) ++
            (eachPath fun p => (s.sup.get p).samplesDiscarded) ++ [s.time.coincident, s.time.clamped]) [] ∧
      groupReading s .rejoin =
        .counters
          ((eachStream fun i => (sget s.rejoin.counts i).released) ++
            (eachStream fun i => (sget s.rejoin.counts i).gapCells) ++
            (eachStream fun i => (sget s.rejoin.counts i).duplicates) ++
            (eachStream fun i => (sget s.rejoin.counts i).upgrades) ++
            (eachStream fun i => (sget s.rejoin.counts i).late) ++ (eachStream fun i => (sget s.rejoin.counts i).early) ++
            (eachStream fun i => (sget s.rejoin.counts i).stale) ++ (eachStream fun i => (sget s.rejoin.counts i).strays) ++
            (eachStream fun i => (sget s.rejoin.counts i).resyncs) ++
            (eachStream fun i => (sget s.rejoin.counts i).flushed) ++
            (eachPath fun p => (s.rejoin.arrivals.get p).first) ++ (eachPath fun p => (s.rejoin.arrivals.get p).upgrades) ++
            (eachPath fun p => (s.rejoin.arrivals.get p).duplicates) ++
            (eachPath fun p => (s.rejoin.arrivals.get p).late) ++
            (eachPath fun p => (s.rejoin.arrivals.get p).unplanned) ++
            (eachPath fun p => (s.rejoin.arrivals.get p).unaligned) ++ [s.rejoin.unknownMessages]) [] ∧
      groupReading s .storm =
        .counters
          ([s.storm.flashTaken, s.storm.surgeTaken, s.storm.flashIgnored, s.storm.surgeIgnored, s.storm.fieldAssertions] ++
            eachPath s.storm.shelters.get ++ eachPath s.storm.lastPathKept.get ++ [s.storm.peerForgets])
          [{ bytes := 2, value := s.holdUp.strikes },
            { bytes := 1
              value := match s.holdUp.cause with | .powerOn => 0 | .brownout => 1 | .soft => 2 | .softRemote => 3 }] ∧
      groupReading s .switch =
        .counters
          [s.switch.sent, s.switch.taken, s.switch.declined, s.switch.cancels, s.switch.lateCancels, s.switch.strayAnswers]
          [] ∧
      groupReading s .ports =
        .counters
          ((eachPort fun p => (s.ports.lp.get p).framesDiscarded) ++
            (eachPort fun p => (s.ports.lp.get p).unknownCommands) ++
            (eachPort fun p => (s.ports.lp.get p).responsesDiscarded) ++
            (eachPort fun p => (s.ports.lp.get p).tunnelsSent) ++ (eachPort fun p => (s.ports.lp.get p).tunnelTimeouts) ++
            (eachPort fun p => (s.ports.lp.get p).lateResponses) ++ [s.ports.executed]) []) ∧
  (∀ s : State,
    clearGroup s .dispatch =
        { s with
          disp :=
            { s.disp with
              ingressRefused := sall 0, overBudget := sall 0, diversityReduced := sall 0, noPath := sall 0
              queueFull := ⟨0, 0, 0⟩, expired := ⟨0, 0, 0⟩, purged := ⟨0, 0, 0⟩, outboxFull := 0 } } ∧
      clearGroup s .framing =
        { s with
          framer := .of fun p =>
            { s.framer.get p with
              blocksClean := 0, blocksCorrected := 0, blocksFailed := 0, headerFailures := 0, ownRoleHeaders := 0 } } ∧
      clearGroup s .supervision =
        { s with
          sup := .of fun p => { s.sup.get p with probDiscards := 0, alignLosses := 0, samplesDiscarded := 0 }
          time := { s.time with coincident := 0, clamped := 0 } } ∧
      clearGroup s .rejoin =
        { s with
          rejoin :=
            { s.rejoin with
              counts := sall ⟨0, 0, 0, 0, 0, 0, 0, 0, 0, 0⟩
              arrivals := .of fun _ => ⟨0, 0, 0, 0, 0, 0⟩
              unknownMessages := 0 } } ∧
      clearGroup s .storm =
        { s with
          storm :=
            { s.storm with
              flashTaken := 0, surgeTaken := 0, flashIgnored := 0, surgeIgnored := 0, fieldAssertions := 0
              shelters := ⟨0, 0, 0⟩, lastPathKept := ⟨0, 0, 0⟩, peerForgets := 0 } } ∧
      clearGroup s .switch =
        { s with
          switch :=
            { s.switch with
              sent := 0, taken := 0, declined := 0, cancels := 0, lateCancels := 0, strayAnswers := 0 } } ∧
      ∃ lp1 lp2 : PortState,
        clearGroup s .ports = { s with ports := { s.ports with lp := ⟨lp1, lp2⟩, executed := 0 } } ∧
          ∀ x y, (x, y) = (s.ports.lp.lp1, lp1) ∨ (x, y) = (s.ports.lp.lp2, lp2) →
            y =
              { x with
                framesDiscarded := 0, unknownCommands := 0, responsesDiscarded := 0, tunnelsSent := 0, tunnelTimeouts := 0
                lateResponses := 0 }) ∧
  ∀ (s : State) (g h : CounterGroup),
    (h ≠ g → groupReading (clearGroup s g) h = groupReading s h) ∧
      ∃ before after readings,
        groupReading s g = .counters before readings ∧ groupReading (clearGroup s g) g = .counters after readings ∧
          after.length = before.length ∧ ∀ n ∈ after, n = 0

/-- R174: SET-RANK sets the rank of the requester it names and answers DONE; it is refused with LAST-RANK-ZERO where no
requester would be at rank 0, and with BAD-ARGUMENT for an undefined requester or a rank above 3, with no other effect. -/
def Obligations.SetRankKeepsARankZero : Prop :=
  (∀ (src : Source) (q k : Byte) (r : Requester) (n : Rank) (s : State), Passes 4 0 src s → requesterOf q = some r →
    k.toNat = n.val → someRankZero (s.ports.ranks.set r n) = true →
    exec (.setRank src q k) s =
      .next (respond src 4 (bare .done) (received src s)
        (modPorts (fun x => { x with ranks := x.ranks.set r n }) (received src s)))) ∧
  (∀ (src : Source) (q k : Byte) (r : Requester) (n : Rank) (s : State), Passes 4 0 src s → requesterOf q = some r →
    k.toNat = n.val → someRankZero (s.ports.ranks.set r n) = false →
    exec (.setRank src q k) s = .next (respond src 4 (bare .lastRankZero) (received src s) (received src s))) ∧
  ∀ (src : Source) (q k : Byte) (s : State), Passes 4 0 src s → 3 ≤ q.toNat ∨ 4 ≤ k.toNat →
    exec (.setRank src q k) s = .next (respond src 4 (bare .badArgument) (received src s) (received src s))

/-- R185, R184: CLEAR-EVENTS takes the named kinds out of the sender's event set, but for condition kinds whose condition
holds, which stay; it changes no other set, and answers the set that is left and the kinds that stayed. -/
def Obligations.ClearEventsKeepsHeldConditions : Prop :=
  (∀ (src : Source) (kinds : BitVec 32) (s : State), Passes 19 anyRank src s → kinds.toNat < 2 ^ 24 →
    ∃ left stayed : KindSet,
      exec (.clearEvents src kinds) s =
          .next (respond src 19 (reading (.cleared left stayed)) (received src s)
            { received src s with ev := { s.ev with sets := s.ev.sets.set (requesterOfSource src) left } }) ∧
        (∀ j, left.getLsbD j =
          ((s.ev.sets.get (requesterOfSource src)).getLsbD j &&
            (!kinds.getLsbD j || (s.ev.holds.getLsbD j && conditionKinds.getLsbD j)))) ∧
        ∀ j, stayed.getLsbD j = (left.getLsbD j && kinds.getLsbD j)) ∧
  ∀ (src : Source) (kinds : BitVec 32) (s : State), Passes 19 anyRank src s → 2 ^ 24 ≤ kinds.toNat →
    exec (.clearEvents src kinds) s = .next (respond src 19 (bare .badArgument) (received src s) (received src s))

/-- R186, R187: SET-ENABLES replaces the sender's enable set. When PT's intersection goes from empty to not empty with it,
one NOTICE with the kinds of the intersection is placed; otherwise no message is. -/
def Obligations.SetEnablesAndNotice : Prop :=
  (∀ (src : Source) (kinds : BitVec 32) (s : State), Passes 20 anyRank src s → kinds.toNat < 2 ^ 24 →
    (requesterOfSource src = .pt → bothSets s.ev .pt = 0 → s.ev.sets.pt &&& kinds.setWidth 24 = 0) →
    exec (.setEnables src kinds) s =
      .next (respond src 20 (bare .done) (received src s)
        { received src s with ev := { s.ev with enables := s.ev.enables.set (requesterOfSource src) (kinds.setWidth 24) } })) ∧
  (∀ (src : Source) (kinds : BitVec 32) (s : State), Passes 20 anyRank src s → kinds.toNat < 2 ^ 24 →
    requesterOfSource src = .pt → bothSets s.ev .pt = 0 → s.ev.sets.pt &&& kinds.setWidth 24 ≠ 0 →
    exec (.setEnables src kinds) s =
      .next (respond src 20 (bare .done) (received src s)
        (place (.notice s.role ((s.ev.sets.pt &&& kinds.setWidth 24).setWidth 32))
          { received src s with
            ev := { s.ev with enables := s.ev.enables.set (requesterOfSource src) (kinds.setWidth 24) } }))) ∧
  ∀ (src : Source) (kinds : BitVec 32) (s : State), Passes 20 anyRank src s → 2 ^ 24 ≤ kinds.toNat →
    exec (.setEnables src kinds) s = .next (respond src 20 (bare .badArgument) (received src s) (received src s))

/-- R183, R184, R187: a raised kind joins the event set of every requester and leaves every other kind, the enables and
the conditions as they are; a NOTICE is placed exactly when PT's intersection goes from empty to not empty. A port's
ATTENTION line is high exactly while the intersection of its event set and enable set is not empty (R186), so a raised
kind that the port enables makes it high. A condition that begins raises its kind and holds; one that holds already
changes nothing when it is reported again; one that ends leaves the kind in the sets where it stands (R184). A message
placed joins the outbox's tail; at 32 messages it is discarded and counted (R32). -/
def Obligations.RaisedKindsJoinEverySet : Prop :=
  (∀ (k : KindSet) (s : State),
    (∀ r j, ((raise k s).ev.sets.get r).getLsbD j = ((s.ev.sets.get r).getLsbD j || k.getLsbD j)) ∧
    (raise k s).ev.enables = s.ev.enables ∧ (raise k s).ev.holds = s.ev.holds ∧
    (raise k s).ev.peerNotice = s.ev.peerNotice ∧
    (bothSets s.ev .pt ≠ 0 ∨ (s.ev.sets.pt ||| k) &&& s.ev.enables.pt = 0 → (raise k s).disp = s.disp) ∧
    (bothSets s.ev .pt = 0 → (s.ev.sets.pt ||| k) &&& s.ev.enables.pt ≠ 0 →
      (raise k s).disp =
        (place (.notice s.role (((s.ev.sets.pt ||| k) &&& s.ev.enables.pt).setWidth 32)) s).disp)) ∧
  (∀ (p : Port) (r : Requester) (s : State), r = (match p with | .lp1 => .lp1 | .lp2 => .lp2) →
    (attention s p = true ↔ ∃ j, ((s.ev.sets.get r).getLsbD j && (s.ev.enables.get r).getLsbD j) = true) ∧
      ∀ k : KindSet,
        (attention (raise k s) p = true ↔ attention s p = true ∨ ∃ j, (k.getLsbD j && (s.ev.enables.get r).getLsbD j) = true)) ∧
  (∀ (k : KindSet) (s : State),
    k ∈ [kindPathDegraded, kindInStorm, kindHoldShort, kindEpochSplit, kindPeerParked] →
    (condHolds s k = false →
      Raised k (setCond k true s) ∧ condHolds (setCond k true s) k = true ∧
        setCond k true s = { raise k s with ev := { (raise k s).ev with holds := s.ev.holds ||| k } }) ∧
      (condHolds s k = true → setCond k true s = s) ∧ condHolds (setCond k false s) k = false ∧
      setCond k false s = { s with ev := { s.ev with holds := s.ev.holds &&& ~~~k } } ∧
      ∀ (b : Bool), ∀ j ∈ [kindPathDegraded, kindInStorm, kindHoldShort, kindEpochSplit, kindPeerParked], j ≠ k →
        condHolds (setCond k b s) j = condHolds s j) ∧
  ∀ (m : Message) (s : State),
    (s.disp.outbox.length < 32 →
      place m s = { s with disp := { s.disp with outbox := s.disp.outbox ++ [{ msg := m, awaited := .no }] } }) ∧
      (32 ≤ s.disp.outbox.length →
        place m s = { s with disp := { s.disp with outboxFull := oneMore s.disp.outboxFull } })

/-- R176: a TUNNEL from a local port whose inner frame is a command other than FETCH and TUNNEL, of at most 224 bytes,
places a TUNNEL-REQUEST and opens the port's tunnel for 100 ms, discards an unfetched record, and is not answered; any
other inner frame is answered and nothing is sent; from PT it is answered BAD-ARGUMENT. That the refused TUNNEL's record
echoes TUNNEL's own code (assumption log 21), and that an inner frame of no bytes or of more than 224 is answered
BAD-ARGUMENT, or UNKNOWN-COMMAND where its code names none (assumption log 40), is the model's choice. -/
def Obligations.TunnelSendsTheInnerFrame : Prop :=
  (∀ (p : Port) (inner : List Byte) (r : Request) (s : State), Passes 23 anyRank (.lp p) s →
    parseFrame inner = .request r → r ≠ .fetch → (∀ x, r ≠ .tunnel x) → inner.length ≤ 224 →
    exec (.tunnel (.lp p) inner) s =
      .next (modPort p (fun x =>
          { x with
            slot := if ready s p = true then none else x.slot
            responsesDiscarded := if ready s p = true then oneMore x.responsesDiscarded else x.responsesDiscarded
            tunnel := some { tag := x.tag, timeout := 100000, parts := [], lastPart := none }
            tag := x.tag + 1
            tunnelsSent := oneMore x.tunnelsSent })
        (place (.tunnelRequest s.role p (BitVec.ofNat 8 (s.ports.ranks.get (requesterOfPort p)).val)
          (s.ports.lp.get p).tag inner) s))) ∧
  (∀ (p : Port) (inner : List Byte) (s : State), Passes 23 anyRank (.lp p) s →
    (parseFrame inner = .discarded ∨ parseFrame inner = .ignored ∨
      ∃ r, parseFrame inner = .request r ∧ (r = .fetch ∨ (∃ x, r = .tunnel x) ∨ 224 < inner.length)) →
    exec (.tunnel (.lp p) inner) s = .next (placeRecord p (recordOf 23 (bare .badArgument)) s)) ∧
  (∀ (p : Port) (inner : List Byte) (code : Byte) (s : State), Passes 23 anyRank (.lp p) s →
    parseFrame inner = .unknown code →
    exec (.tunnel (.lp p) inner) s =
      .next (placeRecord p (recordOf 23 (bare .unknownCommand))
        (modPort p (fun x => { x with unknownCommands := oneMore x.unknownCommands }) s))) ∧
  ∀ (far : Port) (rank tag : Byte) (inner : List Byte) (s : State), Passes 23 anyRank (.pt far rank tag) s →
    exec (.tunnel (.pt far rank tag) inner) s =
      .next (respond (.pt far rank tag) 23 (bare .badArgument) (received (.pt far rank tag) s)
        (received (.pt far rank tag) s))

/-- R179: the expiry of a tunnel's timeout places a TUNNEL-TIMEOUT record with its tunnelled flag set and no body, ends the
tunnel with its parts, counts it, and takes a TUNNEL-REQUEST that still waits out of the outbox. That the record echoes
TUNNEL's own code is the model's choice (assumption log 21). -/
def Obligations.TunnelTimeoutEndsTheTunnel : Prop :=
  ∀ (p : Port) (t : Tunnel) (s : State), (s.ports.lp.get p).tunnel = some t → t.timeout = 0 →
    ∃ u : State,
      exec (.tunnelTimeout p) s = .next u ∧
        u = { s with ports := u.ports, disp := { s.disp with outbox := u.disp.outbox } } ∧
        u.disp.outbox = s.disp.outbox.filter (fun m =>
          match m.msg with
          | .tunnelRequest _ q _ tag _ => !(decide (q = p) && decide (tag = t.tag))
          | _ => true) ∧
        u.ports.lp = s.ports.lp.set p
          { s.ports.lp.get p with
            slot := some
              ({ code := 23, status := 18, tunnelled := true, repeated := false, noted := false,
                 number := (s.ports.lp.get p).number + 1, note := [], body := .none }, false)
            number := (s.ports.lp.get p).number + 1
            responsesDiscarded :=
              if ready s p = true then oneMore (s.ports.lp.get p).responsesDiscarded else (s.ports.lp.get p).responsesDiscarded
            tunnel := none
            tunnelTimeouts := oneMore (s.ports.lp.get p).tunnelTimeouts } ∧
        u.ports = { s.ports with lp := u.ports.lp }

/-- R178: the parts of a response, taken in their order by a tunnel that has kept none, fill the port's slot with the
record their bytes form, tunnelled flag set, and end the tunnel; the bytes of a whole record form that record again, byte
for byte; a part that matches no tunnel is counted as late and changes nothing else. That parts numbered above 4 are kept
like the others is the model's choice (assumption log 42). -/
def Obligations.TunnelResponseIsJoined : Prop :=
  (∀ (p : Port) (t : Tunnel) (ds : List (List Byte)) (s : State), (s.ports.lp.get p).tunnel = some t → t.parts = [] →
    t.lastPart = none → ds ≠ [] → ds.length ≤ 256 →
    ∃ u : State,
      (ds.mapIdx fun n d => (n, d)).foldl
          (fun v e => takeResponse p t.tag (BitVec.ofNat 8 e.1) (decide (e.1 + 1 = ds.length)) e.2 v) s = u ∧
        u = { s with ports := u.ports } ∧ (u.ports.lp.get p).tunnel = none ∧ ready u p = true ∧
        (u.ports.lp.get p).slot =
          some ({ recordOfBytes ds.flatten with number := (s.ports.lp.get p).number + 1, tunnelled := true }, false)) ∧
  (∀ r : Record, (bodyBytes r).length < 65536 →
    recordOfBytes (recordBytes r) =
        { code := r.code, status := r.status, tunnelled := true, repeated := r.repeated, noted := r.noted
          number := r.number, note := [], body := .raw (bodyBytes r) } ∧
      recordBytes (recordOfBytes (recordBytes r)) = recordBytes { r with tunnelled := true }) ∧
  ∀ (p : Port) (tag n : Byte) (last : Bool) (d : List Byte) (s : State),
    (∀ t, (s.ports.lp.get p).tunnel = some t → t.tag ≠ tag) →
    takeResponse p tag n last d s = modPort p (fun x => { x with lateResponses := oneMore x.lateResponses }) s

/-- R180, R181: RESET from a local port resets at once with cause SOFT; from PT it is answered DONE and marks a reset
pending, which the first superframe start whose response has drained, or the one at the limit, carries out with cause
SOFT-REMOTE. The clock and the hold-up domain but its cause go through. That these resets take no time is the model's choice
(assumption log 1); how the wait of ten superframe starts counts the present one's is read from the spec by inference
(assumption log 29). -/
def Obligations.ResetCommandAndPendingReset : Prop :=
  (∀ (p : Port) (s : State), Passes 3 0 (.lp p) s →
    exec (.reset (.lp p)) s =
      .next (State.afterReset s.pending s.roleLine s.fieldLine (keptClock s.clock) { s.holdUp with cause := .soft }
        s.ports.draws s.choices s.out)) ∧
  (∀ (far : Port) (rank tag : Byte) (s : State), Passes 3 0 (.pt far rank tag) s →
    ∃ u : State,
      exec (.reset (.pt far rank tag)) s = .next u ∧ u = { s with ports := u.ports, disp := u.disp } ∧
        u.ports =
          { s.ports with
            resetPending := some
              { left := if s.clock.link % 1000 = 0 ∧ s.clock.started = false then 11 else 10, moved := none }
            executed := oneMore s.ports.executed
            draws := s.ports.draws + 1 } ∧
        u.disp.queue = s.disp.queue ∧
        (s.disp.outbox.length < 32 →
          u.disp.outbox = s.disp.outbox ++
            [{ msg := .tunnelResponse s.role far tag 0 true (recordBytes (recordForPt 3 (bare .done) s)), awaited := .reset }])) ∧
  (∀ (s : State) (w : Drain) (q : Seq), boundary s = true → s.ports.resetPending = some w → w.moved = some q →
    drainedTo q s = true →
    exec .resetPendingDrained s =
      .next (State.afterReset s.pending s.roleLine s.fieldLine (keptClock s.clock) { s.holdUp with cause := .softRemote }
        s.ports.draws s.choices s.out)) ∧
  ∀ (s : State) (w : Drain), boundary s = true → s.ports.resetPending = some w → w.left ≤ 1 →
    exec .resetPendingLimit s =
      .next (State.afterReset s.pending s.roleLine s.fieldLine (keptClock s.clock) { s.holdUp with cause := .softRemote }
        s.ports.draws s.choices s.out)

/-- R22, R42, R58, R74, R77, R83, R106, R122, R133, R134, R153, R169, R171, R174, R182, R188: what a power-on and a
brownout reset leave: the hold-up domain cleared or kept, the pinned plan or the default plan installed, the own level
restored, link time at 0 or going on, and in every block what each reset leaves: counters and queues at 0 and empty,
settings at their defaults, paths in ACQUIRE, ranks at their defaults, ports empty, engines idle, RESTART in every event
set, and a restart marker for each inbound stream but stream 0. That a fresh window's NR, origin mark and stray run are 0,
and that the reference clock goes on, are the model's choice (assumption log 6). -/
def Obligations.PowerOnAndBrownoutResets : Prop :=
  (∀ (r : Role) (s : State), ∃ t : State,
    exec (.powerOnReset r) s = .next t ∧ t.role = r ∧ t.clock.link = 0 ∧
      t.holdUp = { strikes := 0, levelClass := .calm, cause := .powerOn, pinned := defaultPlan, pinnedEpoch := 0,
                   pinnedFlag := false } ∧
      t.plan.active = defaultPlan ∧ t.plan.staged = defaultPlan ∧ t.plan.epoch = 0 ∧ t.plan.holder = none ∧
      t.storm.own = .calm ∧ t.storm.effective = .calm ∧ t.ports.ranks = ⟨0, 2, 1⟩ ∧ t.switch.engine = .idle ∧
      t.sweep.engine = .idle ∧ t.rejoin.store = [] ∧ Raised kindRestart t ∧ Restarted r s t) ∧
  ∀ (r : Role) (s : State), ∃ t : State,
    exec (.brownoutReset r) s = .next t ∧ t.role = r ∧ t.clock.link = s.clock.link ∧ t.clock.ref = s.clock.ref ∧
      t.holdUp = { s.holdUp with cause := .brownout, levelClass := t.storm.own } ∧
      t.plan.active = (if s.holdUp.pinnedFlag = true then s.holdUp.pinned else defaultPlan) ∧
      t.plan.staged = t.plan.active ∧ t.plan.epoch = (if s.holdUp.pinnedFlag = true then s.holdUp.pinnedEpoch else 0) ∧
      t.plan.holder = none ∧
      t.storm.own = (match s.holdUp.levelClass with
        | .calm => .calm | .watch => .watch | .storm => .storm | .strike => .storm) ∧
      t.storm.effective = t.storm.own ∧
      t.storm.stormTimer = (if t.storm.own = .storm then some 1200000000 else none) ∧
      t.storm.watchTimer = (if t.storm.own = .watch then some 600000000 else none) ∧
      t.ports.ranks = ⟨0, 2, 1⟩ ∧ t.switch.engine = .idle ∧ t.sweep.engine = .idle ∧ t.rejoin.store = [] ∧
      (∀ p, (t.sup.get p).state = .acquire) ∧ Raised kindRestart t ∧
      (t.storm.own = .storm → Raised kindInStorm t) ∧ Restarted r s t ∧
      ∀ i, windowOf t i =
        if inbound r (sget t.plan.active i) = true then
          some { anchored := false, nr := 0, originMark := 0, strayRun := 0, next := none,
                 span := spanOf (sget t.plan.active i), offset := offsetOf r t.plan.active i }
        else none

/-! ### The stream plan and the plan switch -/

/-- R20, R21: PIN copies the active plan and epoch into the hold-up domain and sets the pin flag, and is refused with BUSY
while a switch is in hand; UNPIN clears the flag and nothing else. -/
def Obligations.PinAndUnpin : Prop :=
  (∀ (src : Source) (s : State), Passes 5 0 src s → s.switch.engine = .idle →
    exec (.pin src) s =
      .next (respond src 5 (bare .done) (received src s)
        { received src s with
          holdUp := { s.holdUp with pinned := s.plan.active, pinnedEpoch := s.plan.epoch, pinnedFlag := true } })) ∧
  (∀ (src : Source) (s : State), Passes 5 0 src s → s.switch.engine ≠ .idle →
    exec (.pin src) s = .next (respond src 5 (bare .busy) (received src s) (received src s))) ∧
  ∀ (src : Source) (s : State), Passes 6 0 src s →
    exec (.unpin src) s =
      .next (respond src 6 (bare .done) (received src s)
        { received src s with holdUp := { s.holdUp with pinnedFlag := false } })

/-- R14, R15: CLAIM takes or renews a free or own edit claim with the lapse time given, clamped to 5 to 255 s, and starts
the lapse timer; it is answered BUSY while a switch is in hand and CLAIMED, naming the holder, while another requester
holds the claim. A CLAIM whose presence byte sets an undefined bit is answered BAD-ARGUMENT (section 9.6) and takes no
lapse time; that this comes ahead of the engine and the holder, and that it restarts the holder's timer, is the model's
choice (assumption log 19). -/
def Obligations.ClaimGrantsAndRenews : Prop :=
  (∀ (src : Source) (a : ClaimArgs) (secs : Nat) (s : State), Passes 7 2 src s → a.badPresence = false →
    s.switch.engine = .idle → s.plan.holder = none ∨ s.plan.holder = some (requesterOfSource src) →
    secs = (match a.lapse with | none => s.plan.lapseSecs | some b => max 5 (min 255 b.toNat)) →
    exec (.claim src a) s =
      .next (respond src 7
        (doneNoting (match a.lapse with | none => [] | some b => if b.toNat < 5 then [.lapse] else []))
        (received src s)
        { received src s with
          plan :=
            { s.plan with
              holder := some (requesterOfSource src), lapseSecs := secs, lapseTimer := some (secs * 1000000) } })) ∧
  (∀ (src : Source) (a : ClaimArgs) (s : State), Passes 7 2 src s → a.badPresence = false → s.switch.engine ≠ .idle →
    exec (.claim src a) s = .next (respond src 7 (bare .busy) (received src s) (received src s))) ∧
  (∀ (src : Source) (a : ClaimArgs) (s : State), Passes 7 2 src s → a.badPresence = true →
    exec (.claim src a) s =
      .next (respond src 7 (bare .badArgument) (received src s)
        { received src s with
          plan :=
            { s.plan with
              lapseTimer :=
                if s.plan.holder = some (requesterOfSource src) then some (s.plan.lapseSecs * 1000000)
                else s.plan.lapseTimer } })) ∧
  ∀ (src : Source) (a : ClaimArgs) (h : Requester) (s : State), Passes 7 2 src s → a.badPresence = false →
    s.switch.engine = .idle → s.plan.holder = some h → h ≠ requesterOfSource src →
    exec (.claim src a) s =
      .next (respond src 7 (answering .claimed (.holder (some h))) (received src s) (received src s))

/-- R16, R15: RELEASE by the holder, and the lapse of its timer, free the claim; a RELEASE at effective rank 0 breaks
another's claim; lapse and break put CLAIM-LAPSED into the former holder's event set alone. Any other RELEASE is answered
NOT-HOLDER with the holder. -/
def Obligations.ReleaseBreakAndLapse : Prop :=
  (∀ (src : Source) (s : State), Passes 8 2 src s → s.plan.holder = some (requesterOfSource src) →
    exec (.release src) s =
      .next (respond src 8 (bare .done) (received src s)
        { received src s with plan := { s.plan with holder := none, lapseTimer := none } })) ∧
  (∀ (src : Source) (h : Requester) (s : State), Passes 8 2 src s → s.plan.holder = some h → h ≠ requesterOfSource src →
    effectiveRank s src = 0 →
    exec (.release src) s =
      .next (respond src 8 (bare .done) (received src s)
        (raiseFor h kindClaimLapsed
          { received src s with plan := { s.plan with holder := none, lapseTimer := none } }))) ∧
  (∀ (src : Source) (s : State), Passes 8 2 src s → s.plan.holder ≠ some (requesterOfSource src) →
    s.plan.holder = none ∨ effectiveRank s src ≠ 0 →
    exec (.release src) s =
      .next (respond src 8 (answering .notHolder (.holder s.plan.holder)) (received src s) (received src s))) ∧
  (∀ (h : Requester) (s : State), s.plan.holder = some h → s.plan.lapseTimer = some 0 →
    exec .claimLapse s =
      .next (raiseFor h kindClaimLapsed { s with plan := { s.plan with holder := none, lapseTimer := none } })) ∧
  ∀ (h r : Requester) (k : KindSet) (s : State),
    (raiseFor h k s).ev.sets.get r = if r = h then s.ev.sets.get r ||| k else s.ev.sets.get r

/-- R9, R10, R11: SET-STREAM by the claim holder writes the settings given into the staged descriptor, clamps stagger,
hold, budget raw and priority and notes what it clamped, keeps the settings not given, and restarts the lapse timer.
Without the claim it is answered NOT-HOLDER; at a bad index or an undefined setting BAD-ARGUMENT; where the rank check
fails RANK. Each enumerated setting has the value its number names in section 9.6. That the holder check comes ahead of an
undefined presence bit is the model's choice (assumption log 19). -/
def Obligations.SetStreamEditsTheStagedPlan : Prop :=
  (∀ (src : Source) (index : Byte) (i : StreamIx) (a : StreamArgs) (e : EnumSettings) (s : State), Passes 9 2 src s →
    s.plan.holder = some (requesterOfSource src) → index.toNat = i.val → i ≠ 0 → enumSettings a = some e →
    effectiveRank s src ≤ (sget s.plan.staged i).editRank.val →
    effectiveRank s src ≤ (e.editRank.getD (sget s.plan.staged i).editRank).val →
    ∃ d : Descriptor,
      exec (.setStream src index a) s =
          .next (respond src 9 (doneNoting (streamNote a)) (received src s)
            { received src s with
              plan := { s.plan with staged := sset s.plan.staged i d, lapseTimer := some (s.plan.lapseSecs * 1000000) } }) ∧
        d.present = e.present.getD (sget s.plan.staged i).present ∧ d.cls = e.cls.getD (sget s.plan.staged i).cls ∧
        d.direction = e.direction.getD (sget s.plan.staged i).direction ∧
        d.editRank = e.editRank.getD (sget s.plan.staged i).editRank ∧ d.mode = e.mode.getD (sget s.plan.staged i).mode ∧
        d.preferred = e.preferred.getD (sget s.plan.staged i).preferred ∧
        d.granularity = e.granularity.getD (sget s.plan.staged i).granularity ∧
        d.stagger = (match a.stagger with | none => (sget s.plan.staged i).stagger | some x => min 160 x.toNat) ∧
        d.hold = (match a.hold with | none => (sget s.plan.staged i).hold | some x => max 4 (min 320 x.toNat)) ∧
        d.budgetRaw = (match a.budgetRaw with | none => (sget s.plan.staged i).budgetRaw | some x => min 63 x.toNat) ∧
        d.priority = (match a.priority with | none => (sget s.plan.staged i).priority | some x => min 3 x.toNat) ∧
        (ClampField.hold ∈ streamNote a ↔ ∃ x, a.hold = some x ∧ (x.toNat < 4 ∨ 320 < x.toNat)) ∧
        (ClampField.stagger ∈ streamNote a ↔ ∃ x, a.stagger = some x ∧ 160 < x.toNat) ∧
        (ClampField.budgetRaw ∈ streamNote a ↔ ∃ x, a.budgetRaw = some x ∧ 63 < x.toNat) ∧
        (ClampField.priority ∈ streamNote a ↔ ∃ x, a.priority = some x ∧ 3 < x.toNat)) ∧
  (∀ (src : Source) (index : Byte) (a : StreamArgs) (s : State), Passes 9 2 src s →
    s.plan.holder ≠ some (requesterOfSource src) →
    exec (.setStream src index a) s =
      .next (respond src 9 (answering .notHolder (.holder s.plan.holder)) (received src s) (received src s))) ∧
  (∀ (src : Source) (index : Byte) (a : StreamArgs) (s : State), Passes 9 2 src s →
    s.plan.holder = some (requesterOfSource src) → index = 0 ∨ 32 ≤ index.toNat ∨ enumSettings a = none →
    exec (.setStream src index a) s =
      .next (respond src 9 (bare .badArgument) (received src s)
        { received src s with plan := { s.plan with lapseTimer := some (s.plan.lapseSecs * 1000000) } })) ∧
  (∀ (src : Source) (index : Byte) (i : StreamIx) (a : StreamArgs) (e : EnumSettings) (s : State), Passes 9 2 src s →
    s.plan.holder = some (requesterOfSource src) → index.toNat = i.val → i ≠ 0 → enumSettings a = some e →
    (sget s.plan.staged i).editRank.val < effectiveRank s src ∨
      (e.editRank.getD (sget s.plan.staged i).editRank).val < effectiveRank s src →
    exec (.setStream src index a) s =
      .next (respond src 9 (bare .rank) (received src s)
        { received src s with plan := { s.plan with lapseTimer := some (s.plan.lapseSecs * 1000000) } })) ∧
  (∀ (a : StreamArgs) (e : EnumSettings), enumSettings a = some e →
    e.present = a.present.map (fun b => decide (b = 1)) ∧
      e.cls = a.cls.map (fun b =>
        match b.toNat with | 1 => .programme | 2 => .ret | 3 => .audio | 4 => .talk | _ => .control) ∧
      e.direction = a.direction.map (fun b => if b = 0 then .up else .down) ∧
      e.editRank.map (fun k => k.val) = a.editRank.map (fun b => b.toNat) ∧
      e.mode = a.mode.map (fun b =>
        match b.toNat with | 0 => .single | 1 => .dual | 2 => .dualStagger | 3 => .triple | _ => .escalate) ∧
      e.preferred = a.preferred.map (fun b =>
        match b.toNat with | 0 => none | 1 => some .a | 2 => some .b | _ => some .w) ∧
      e.granularity = a.granularity.map (fun b => if b = 0 then .fine else .coarse)) ∧
  ∀ a : StreamArgs, enumSettings a = none ↔
    a.badPresence = true ∨ (∃ b, a.present = some b ∧ 2 ≤ b.toNat) ∨
      (∃ b, a.cls = some b ∧ (b.toNat = 0 ∨ 6 ≤ b.toNat)) ∨ (∃ b, a.direction = some b ∧ 2 ≤ b.toNat) ∨
      (∃ b, a.editRank = some b ∧ 4 ≤ b.toNat) ∨ (∃ b, a.mode = some b ∧ 5 ≤ b.toNat) ∨
      (∃ b, a.preferred = some b ∧ 4 ≤ b.toNat) ∨ ∃ b, a.granularity = some b ∧ 2 ≤ b.toNat

/-- R9, R10, R12, R13: CLEAR-STREAM by the holder marks the staged descriptor absent and keeps its other fields; REVERT
copies the active plan into the staged plan, or names the lowest index at which the rank check fails and copies nothing.
Without the claim both are answered NOT-HOLDER, naming the holder or none, whatever else they would fail; CLEAR-STREAM is
answered BAD-ARGUMENT at an index outside 1 to 31, and then RANK where the rank check fails. -/
def Obligations.ClearStreamAndRevert : Prop :=
  (∀ (src : Source) (index : Byte) (i : StreamIx) (s : State), Passes 10 2 src s →
    s.plan.holder = some (requesterOfSource src) → index.toNat = i.val → i ≠ 0 →
    effectiveRank s src ≤ (sget s.plan.staged i).editRank.val →
    exec (.clearStream src index) s =
      .next (respond src 10 (bare .done) (received src s)
        { received src s with
          plan :=
            { s.plan with
              staged := sset s.plan.staged i { sget s.plan.staged i with present := false }
              lapseTimer := some (s.plan.lapseSecs * 1000000) } })) ∧
  (∀ (src : Source) (s : State), Passes 11 2 src s → s.plan.holder = some (requesterOfSource src) →
    (∀ i, sget s.plan.staged i ≠ sget s.plan.active i →
      effectiveRank s src ≤ (sget s.plan.staged i).editRank.val ∧
        effectiveRank s src ≤ (sget s.plan.active i).editRank.val) →
    exec (.revert src) s =
      .next (respond src 11 (bare .done) (received src s)
        { received src s with
          plan := { s.plan with staged := s.plan.active, lapseTimer := some (s.plan.lapseSecs * 1000000) } })) ∧
  (∀ (src : Source) (index : Byte) (s : State), Passes 10 2 src s → s.plan.holder ≠ some (requesterOfSource src) →
    exec (.clearStream src index) s =
      .next (respond src 10 (answering .notHolder (.holder s.plan.holder)) (received src s) (received src s))) ∧
  (∀ (src : Source) (index : Byte) (s : State), Passes 10 2 src s → s.plan.holder = some (requesterOfSource src) →
    index = 0 ∨ 32 ≤ index.toNat →
    exec (.clearStream src index) s =
      .next (respond src 10 (bare .badArgument) (received src s)
        { received src s with plan := { s.plan with lapseTimer := some (s.plan.lapseSecs * 1000000) } })) ∧
  (∀ (src : Source) (index : Byte) (i : StreamIx) (s : State), Passes 10 2 src s →
    s.plan.holder = some (requesterOfSource src) → index.toNat = i.val → i ≠ 0 →
    (sget s.plan.staged i).editRank.val < effectiveRank s src →
    exec (.clearStream src index) s =
      .next (respond src 10 (bare .rank) (received src s)
        { received src s with plan := { s.plan with lapseTimer := some (s.plan.lapseSecs * 1000000) } })) ∧
  (∀ (src : Source) (s : State), Passes 11 2 src s → s.plan.holder ≠ some (requesterOfSource src) →
    exec (.revert src) s =
      .next (respond src 11 (answering .notHolder (.holder s.plan.holder)) (received src s) (received src s))) ∧
  ∀ (src : Source) (i : StreamIx) (s : State), Passes 11 2 src s → s.plan.holder = some (requesterOfSource src) →
    sget s.plan.staged i ≠ sget s.plan.active i →
    (sget s.plan.staged i).editRank.val < effectiveRank s src ∨
      (sget s.plan.active i).editRank.val < effectiveRank s src →
    (∀ j < i, sget s.plan.staged j ≠ sget s.plan.active j →
      effectiveRank s src ≤ (sget s.plan.staged j).editRank.val ∧
        effectiveRank s src ≤ (sget s.plan.active j).editRank.val) →
    exec (.revert src) s =
      .next (respond src 11 (answering .rank (.index i.val)) (received src s)
        { received src s with plan := { s.plan with lapseTimer := some (s.plan.lapseSecs * 1000000) } })

/-- R138, R139, R17: COMMIT by the holder of a staged plan that validates frees the claim, places a PROPOSE with
descriptors 1 to 31 for the next epoch and a superframe 20 to 1,000 ahead, and the engine is PROPOSING; a plan that fails
validation is answered with its verdict and recorded INVALID, and the claim and the plan stay; it is answered BUSY while
PARKING, with a cancel run in progress, or with a FREE record at a MAST. Without the claim it is answered NOT-HOLDER,
naming the holder or none, whatever else it would fail. That an undefined presence bit is found ahead of the holder check
is the model's choice (assumption log 19). -/
def Obligations.CommitProposesTheStagedPlan : Prop :=
  (∀ (src : Source) (a : CommitArgs) (n : SfNum) (s : State), Passes 12 2 src s → a.badPresence = false →
    s.plan.holder = some (requesterOfSource src) → isParking s = false → s.switch.run = none →
    s.role = .truck ∨ s.time.state ≠ .free → validate s.plan.staged = none →
    n = superframeOf s.clock.link +
      BitVec.ofNat 16 (match a.lead with | none => 50 | some x => max 20 (min 1000 x.toNat)) →
    exec (.commit src a) s =
      .next (respond src 12
        { status := .accepted
          note := match a.lead with
            | none => []
            | some x => if x.toNat < 20 ∨ 1000 < x.toNat then [.lead] else []
          body := .proposal (s.plan.epoch + 1) n }
        (received src s)
        (modSwitch (fun w =>
            { w with
              engine := .proposing { epoch := s.plan.epoch + 1, tag := s.plan.epoch + 1, n := n, proposer := s.role }
              sent := oneMore w.sent })
          (place
            (.propose s.role ((s.plan.epoch + 1).setWidth 8) n
              (((List.finRange 32).drop 1).map fun i => wireOf (sget s.plan.staged i)))
            { received src s with plan := { s.plan with holder := none, lapseTimer := none } })))) ∧
  (∀ (src : Source) (a : CommitArgs) (r : Reason) (i : Nat) (n : SfNum) (s : State), Passes 12 2 src s →
    a.badPresence = false → s.plan.holder = some (requesterOfSource src) → isParking s = false → s.switch.run = none →
    s.role = .truck ∨ s.time.state ≠ .free → validate s.plan.staged = some (r, i) →
    n = superframeOf s.clock.link +
      BitVec.ofNat 16 (match a.lead with | none => 50 | some x => max 20 (min 1000 x.toNat)) →
    exec (.commit src a) s =
      .next (respond src 12 (answering .invalid (.verdict r i)) (received src s)
        (raise kindSwitchFailed
          { received src s with
            plan := { s.plan with lapseTimer := some (s.plan.lapseSecs * 1000000) }
            switch :=
              { s.switch with
                engine := .idle
                last := some
                  { epoch := s.plan.epoch + 1, outcome := .invalid r i, proposer := s.role, n := n } } }))) ∧
  (∀ (src : Source) (a : CommitArgs) (s : State), Passes 12 2 src s → a.badPresence = false →
    s.plan.holder ≠ some (requesterOfSource src) →
    exec (.commit src a) s =
      .next (respond src 12 (answering .notHolder (.holder s.plan.holder)) (received src s) (received src s))) ∧
  (∀ (src : Source) (a : CommitArgs) (s : State), Passes 12 2 src s → a.badPresence = true →
    exec (.commit src a) s =
      .next (respond src 12 (bare .badArgument) (received src s)
        { received src s with
          plan :=
            { s.plan with
              lapseTimer :=
                if s.plan.holder = some (requesterOfSource src) then some (s.plan.lapseSecs * 1000000)
                else s.plan.lapseTimer } })) ∧
  ∀ (src : Source) (a : CommitArgs) (s : State), Passes 12 2 src s → a.badPresence = false →
    s.plan.holder = some (requesterOfSource src) →
    isParking s = true ∨ s.switch.run ≠ none ∨ (s.role = .mast ∧ s.time.state = .free) →
    exec (.commit src a) s =
      .next (respond src 12 (bare .busy) (received src s)
        { received src s with plan := { s.plan with lapseTimer := some (s.plan.lapseSecs * 1000000) } })

/-- R151, R141, R136, R142: ABORT-SWITCH with a switch in hand, and the deadline N − 10 of a proposer without an answer,
end it with outcome ABORTED or NO-ANSWER: the record is written, SWITCH-FAILED raised, one CANCEL placed and a cancel run
started that ends with superframe N − 1. ABORT-SWITCH at an IDLE engine is answered DONE without effect. That no run is
left where N − 1 lies behind is read from the spec by inference (assumption log 22), and that the record carries the
proposal's tag is assumption log 33. That the CANCEL stands behind a NOTICE that SWITCH-FAILED brings is the model's
choice (assumption log 53). -/
def Obligations.AbortAndDeadlineCancel : Prop :=
  (∀ (src : Source) (p : Pending) (s : State), Passes 13 2 src s →
    s.switch.engine = .proposing p ∨ s.switch.engine = .armed p →
    ∃ u : State,
      exec (.abortSwitch src) s = .next (respond src 13 (bare .done) (received src s) u) ∧
        u = { received src s with switch := u.switch, disp := u.disp, ev := u.ev } ∧
        u.switch =
          { s.switch with
            engine := .idle
            last := some { epoch := p.tag, outcome := .aborted, proposer := p.proposer, n := p.n }
            cancels := oneMore s.switch.cancels
            run :=
              if superframeOf s.clock.link = p.n - 1 ∨ 32768 ≤ (p.n - 1 - superframeOf s.clock.link).toNat then none
              else some { epoch := p.tag, last := p.n - 1, placedIn := superframeOf s.clock.link } } ∧
        Raised kindSwitchFailed u ∧
        (s.disp.outbox.length < 31 →
          u.disp.outbox.getLast? = some { msg := .cancel s.role (p.tag.setWidth 8), awaited := .no })) ∧
  (∀ (src : Source) (s : State), Passes 13 2 src s → s.switch.engine = .idle →
    exec (.abortSwitch src) s = .next (respond src 13 (bare .done) (received src s) (received src s))) ∧
  ∀ (p : Pending) (s : State), boundary s = true → s.switch.engine = .proposing p →
    p.n - 10 = superframeOf s.clock.link →
    ∃ u : State,
      exec .switchDeadline s = .next u ∧ u = { s with switch := u.switch, disp := u.disp, ev := u.ev } ∧
        u.switch =
          { s.switch with
            engine := .idle
            last := some { epoch := p.tag, outcome := .noAnswer, proposer := p.proposer, n := p.n }
            cancels := oneMore s.switch.cancels
            run := some { epoch := p.tag, last := p.n - 1, placedIn := superframeOf s.clock.link } } ∧
        Raised kindSwitchFailed u ∧
        (s.disp.outbox.length < 31 →
          u.disp.outbox.getLast? = some { msg := .cancel s.role (p.tag.setWidth 8), awaited := .no })

/-- R148, R39, R99, R103, R104: at the start of superframe N an ARMED engine makes the staged plan the active plan under
the pending epoch and records DONE; budget counts are 0, a stream keeps its numbering exactly where present, direction and
class are unchanged, a stream has a window exactly where the new plan makes it inbound, and paths, radio, storm unit,
sweep, ports and queued copies are untouched. In a sound state a window of unchanged class, span and offset is kept: its
cells stay but for those that are overdue under the new hold, which are expelled while the lowest held cell is overdue,
each counted late for its stream and for the path it came on; any other window of the old plan is flushed and counted, and
each window laid out anew sends its restart marker SWITCH, in ascending index. That a fresh window's NR, origin mark and
stray run are 0 (assumption log 6), and that a cell exactly half of M from its release time is not overdue (assumption log
46), is the model's choice. -/
def Obligations.PlanSwitchMakesTheStagedPlanActive : Prop :=
  ∀ (p : Pending) (s : State), boundary s = true → s.switch.engine = .armed p → p.n = superframeOf s.clock.link →
    ∃ t : State,
      exec .planSwitch s = .next t ∧
        t = { s with
          plan := t.plan, clock := t.clock, disp := t.disp, rejoin := t.rejoin, out := t.out, time := t.time,
          switch := t.switch, ev := t.ev } ∧
        t.plan = { s.plan with active := s.plan.staged, epoch := p.epoch } ∧
        t.clock = { s.clock with rolled := true } ∧
        t.switch =
          { s.switch with
            engine := .idle, last := some { epoch := p.epoch, outcome := .done, proposer := p.proposer, n := p.n } } ∧
        Raised kindSwitchDone t ∧ t.disp.queue = s.disp.queue ∧
        (∀ i, sget t.disp.budget i = 0 ∧
          sget t.disp.nextSeq i =
            if (sget s.plan.active i).present = (sget s.plan.staged i).present ∧
                (sget s.plan.active i).direction = (sget s.plan.staged i).direction ∧
                (sget s.plan.active i).cls = (sget s.plan.staged i).cls then sget s.disp.nextSeq i else 0) ∧
        (∀ i, (windowOf t i).map (fun w => (w.span, w.offset)) =
          if inbound s.role (sget s.plan.staged i) = true then
            some (spanOf (sget s.plan.staged i), offsetOf s.role s.plan.staged i)
          else none) ∧
        (PlanSound s → StoreSound s →
          (∀ (i : StreamIx) (v : Window), windowOf s i = some v → KeepsWindow s i v →
            ∃ w : Window,
              windowOf t i = some w ∧ w = { v with next := w.next } ∧
                (∀ x, v.offset ≤ x → x < v.offset + v.span →
                  t.rejoin.store.read x = s.rejoin.store.read x ∨
                    (t.rejoin.store.read x = none ∧ ∃ h, s.rejoin.store.read x = some h ∧ overdue t i h = true)) ∧
                w.next = (lowestHeld t w).map
                  (fun h => (h.cell.origin + (sget s.plan.staged i).hold * 125) % 65536000) ∧
                (∀ h, lowestHeld t w = some h → overdue t i h = false) ∧
                ((∀ e ∈ heldIn s v, overdue t i e.2 = false) → heldIn t w = heldIn s v) ∧
                ((sget s.rejoin.counts i).late ≤ 65535 →
                  sget t.rejoin.counts i =
                    { sget s.rejoin.counts i with
                      late := min 65535
                        ((sget s.rejoin.counts i).late + ((heldIn s v).length - (heldIn t w).length)) })) ∧
          (∀ (i : StreamIx) (v : Window), windowOf s i = some v → ¬KeepsWindow s i v →
            sget t.rejoin.counts i =
              { sget s.rejoin.counts i with
                flushed := min 65535 ((sget s.rejoin.counts i).flushed + (heldIn s v).length) }) ∧
          (∀ i : StreamIx, inbound s.role (sget s.plan.staged i) = true →
            (∀ v, windowOf s i = some v → ¬KeepsWindow s i v) →
            windowOf t i = some
                { anchored := false, nr := 0, originMark := 0, strayRun := 0, next := none,
                  span := spanOf (sget s.plan.staged i), offset := offsetOf s.role s.plan.staged i } ∧
              ∀ x, offsetOf s.role s.plan.staged i ≤ x →
                x < offsetOf s.role s.plan.staged i + spanOf (sget s.plan.staged i) → t.rejoin.store.read x = none) ∧
          (∀ i : StreamIx, windowOf s i = none → sget t.rejoin.counts i = sget s.rejoin.counts i) ∧
          (∀ p, (s.rejoin.arrivals.get p).late ≤ 65535 →
            t.rejoin.arrivals.get p =
              { s.rejoin.arrivals.get p with
                late := min 65535 ((s.rejoin.arrivals.get p).late + (expelledOn s t p).length) }) ∧
          t.rejoin.unknownMessages = s.rejoin.unknownMessages ∧
          t.out.egress = s.out.egress ++
            ((allStreams.filter fun i =>
                decide (i ≠ 0) && inbound s.role (sget s.plan.staged i) &&
                  match windowOf s i with | some v => !decide (KeepsWindow s i v) | none => true).map
              fun i => .restart i .switch))

/-- R140, R143 to R147, R150. A PROPOSE taken with the engine IDLE, not PARKING, no cancel run, no holder, 10 or more
superframes left and a sound plan is accepted: the staged plan is the proposed one, the engine ARMED for the next epoch
under the proposal's tag, ACCEPT placed, PEER-PROPOSAL raised. Otherwise it is declined BUSY, CLAIMED, TOO-LATE, INVALID,
or COLLISION at a PROPOSING TRUCK, and only the DECLINE and its counter change; a PROPOSING MAST records COLLIDED and then
judges it. An ACCEPT of the tag arms a proposer, a DECLINE of it ends the switch with its reason, a CANCEL of it disarms
an ARMED engine; any other one is counted, as a stray answer or a late cancel. That a failed switch is recorded under its
tag is read from the spec by inference (assumption log 33); that a DECLINE other than INVALID carries the index 0
(assumption log 47), and that an INVALID one without a validation reason is recorded so (assumption log 48), and that
ACCEPT stands ahead of a NOTICE that PEER-PROPOSAL brings (assumption log 53), is the model's choice. -/
def Obligations.ProposalsAnswersAndCancelsAreTaken : Prop :=
  (∀ (r : Role) (e : Epoch) (n : SfNum) (ws : List WireDesc) (plan : Plan) (s : State), s.switch.engine = .idle →
    isParking s = false → s.switch.run = none → s.plan.holder = none → 10 ≤ (n - superframeOf s.clock.link).toNat →
    (n - superframeOf s.clock.link).toNat < 32768 → ws.length = 31 → sget plan 0 = sget s.plan.staged 0 →
    (∀ (k : Nat) (h : k + 1 < 32), (ws[k]?).bind descriptorOf = some (sget plan ⟨k + 1, h⟩)) →
    (validate plan = none →
      ∃ t : State,
        deliver (.propose r (e.setWidth 8) n ws) s = t ∧
          t = { s with plan := t.plan, switch := t.switch, disp := t.disp, ev := t.ev } ∧
          t.plan = { s.plan with staged := plan } ∧
          t.switch =
            { s.switch with
              engine := .armed { epoch := s.plan.epoch + 1, tag := e, n := n, proposer := r }
              taken := oneMore s.switch.taken } ∧
          Raised kindPeerProposal t ∧
          (s.disp.outbox.length < 32 →
            t.disp.outbox[s.disp.outbox.length]? = some { msg := .accept s.role (e.setWidth 8), awaited := .no })) ∧
      ∀ (why : Reason) (i : Nat), validate plan = some (why, i) →
        deliver (.propose r (e.setWidth 8) n ws) s = declined s e .invalid (some why) (BitVec.ofNat 8 i)) ∧
  (∀ (r : Role) (e : Epoch) (n : SfNum) (ws : List WireDesc) (k : Nat) (w : WireDesc) (s : State),
    s.switch.engine = .idle → isParking s = false → s.switch.run = none → s.plan.holder = none →
    10 ≤ (n - superframeOf s.clock.link).toNat → (n - superframeOf s.clock.link).toNat < 32768 →
    ws[k]? = some w → descriptorOf w = none → (∀ j < k, (ws[j]?).bind descriptorOf ≠ none) →
    deliver (.propose r (e.setWidth 8) n ws) s = declined s e .invalid (some .field) (BitVec.ofNat 8 (k + 1))) ∧
  (∀ (r : Role) (e : Epoch) (n : SfNum) (ws : List WireDesc) (s : State),
    (∃ p, s.switch.engine = .armed p) ∨ (s.switch.engine = .idle ∧ (isParking s = true ∨ s.switch.run ≠ none)) →
    deliver (.propose r (e.setWidth 8) n ws) s = declined s e .busy none 0) ∧
  (∀ (r : Role) (e : Epoch) (n : SfNum) (ws : List WireDesc) (h : Requester) (s : State), s.switch.engine = .idle →
    isParking s = false → s.switch.run = none → s.plan.holder = some h →
    deliver (.propose r (e.setWidth 8) n ws) s = declined s e .claimed none 0) ∧
  (∀ (r : Role) (e : Epoch) (n : SfNum) (ws : List WireDesc) (s : State), s.switch.engine = .idle →
    isParking s = false → s.switch.run = none → s.plan.holder = none →
    (n - superframeOf s.clock.link).toNat < 10 ∨ 32768 ≤ (n - superframeOf s.clock.link).toNat →
    deliver (.propose r (e.setWidth 8) n ws) s = declined s e .tooLate none 0) ∧
  (∀ (r : Role) (e : Epoch) (n : SfNum) (ws : List WireDesc) (p : Pending) (s : State), s.switch.engine = .proposing p →
    (s.role = .truck → deliver (.propose r (e.setWidth 8) n ws) s = declined s e .collision none 0) ∧
      (s.role = .mast →
        deliver (.propose r (e.setWidth 8) n ws) s =
          deliver (.propose r (e.setWidth 8) n ws) (switchFailed s p .collided))) ∧
  (∀ (r : Role) (e : Epoch) (s : State),
    (∀ p, s.switch.engine = .proposing p → e = p.tag →
      deliver (.accept r (e.setWidth 8)) s = { s with switch := { s.switch with engine := .armed p } }) ∧
      ((∀ p, s.switch.engine = .proposing p → e ≠ p.tag) →
        deliver (.accept r (e.setWidth 8)) s =
          { s with switch := { s.switch with strayAnswers := oneMore s.switch.strayAnswers } })) ∧
  (∀ (r : Role) (e : Epoch) (why : DeclineReason) (v : Option Reason) (i : Byte) (s : State),
    (∀ p, s.switch.engine = .proposing p → e = p.tag →
      deliver (.decline r (e.setWidth 8) why v i) s =
        switchFailed s p
          (if why = .collision then .collided
           else if why = .invalid then .declined .invalid (some (v, i.toNat))
           else .declined why none)) ∧
      ((∀ p, s.switch.engine = .proposing p → e ≠ p.tag) →
        deliver (.decline r (e.setWidth 8) why v i) s =
          { s with switch := { s.switch with strayAnswers := oneMore s.switch.strayAnswers } })) ∧
  ∀ (r : Role) (e : Epoch) (s : State),
    (∀ p, s.switch.engine = .armed p → e = p.tag →
      deliver (.cancel r (e.setWidth 8)) s = switchFailed s p .cancelledByPeer) ∧
      ((∀ p, s.switch.engine = .armed p → e ≠ p.tag) →
        deliver (.cancel r (e.setWidth 8)) s =
          { s with switch := { s.switch with lateCancels := oneMore s.switch.lateCancels } })

/-! ### Paths, radio and storm settings -/

/-- R68, R35, R60, R61, R166: PATH-ENABLE with 0 puts the path into OFF with no delay estimate and with an empty queue,
whose copies count in its purged counter, and ends a sweep that runs on it with PATH-LOST; with 1 a path that is OFF for
no other cause enters ACQUIRE, and one that is not OFF keeps its state. The queues of the other paths are left alone. An
undefined path or value is answered BAD-ARGUMENT without effect. -/
def Obligations.PathEnableMovesThePath : Prop :=
  (∀ (src : Source) (b v : Byte) (p : Path) (on : Bool) (s : State), Passes 24 1 src s → pathOf b = some p →
    v.toNat = (if on = true then 1 else 0) →
    ∃ u : State,
      exec (.pathEnable src b v) s = .next (respond src 24 (bare .done) (received src s) u) ∧
        (u.pending, u.role, u.plan, u.radio, u.rejoin, u.storm, u.holdUp, u.out) =
          (s.pending, s.role, s.plan, s.radio, s.rejoin, s.storm, s.holdUp, s.out) ∧
        u.ports = (received src s).ports ∧ (u.sup.get p).enable = on ∧
        (on = false →
          pstate u p = .off ∧ (pstate s p ≠ .off → Purged s u p ∧ (u.sup.get p).delay = none) ∧
            ∀ c, s.sweep.engine = .running c → c.path = p → EndsPathLost c u) ∧
        (on = true → (p = .w → s.radio.mode = .active ∨ s.radio.mode = .idle) →
          (pstate s p = .off → pstate u p = .acquire ∧ (u.sup.get p).acqRun = 0) ∧
            (pstate s p ≠ .off → pstate s p ≠ .sweep → pstate u p = pstate s p)) ∧
        (on = true → p = .w → s.radio.mode = .standby ∨ s.radio.mode = .warmup → pstate u .w = .off) ∧
        (pstate s p = .off → QueueKept s u p) ∧
        ∀ q, q ≠ p → (pstate s q = .off ↔ offCause s q = true) → QueueKept s u q) ∧
  ∀ (src : Source) (b v : Byte) (s : State), Passes 24 1 src s → 3 ≤ b.toNat ∨ 2 ≤ v.toNat →
    exec (.pathEnable src b v) s = .next (respond src 24 (bare .badArgument) (received src s) (received src s))

/-- R56, R69, R123, R122, R112: SET-PATH and SET-STORM write the settings given, clamp the numeric ones and note them,
keep the others, and change nothing else; no path state, level or running timer moves, but a changed FIELD polarity starts
the debounce. A block length other than 1, 2, 4, 8 or 16, an undefined path, exposure or polarity, or a presence bit that
names no setting refuses the whole command with BAD-ARGUMENT. That the debounce starts with the debounce time of the same
command is the model's choice (assumption log 23). -/
def Obligations.SetPathAndSetStormWriteSettings : Prop :=
  (∀ (src : Source) (a : PathArgs) (p : Path) (e : PathEnums) (s : State), Passes 25 1 src s → pathOf a.path = some p →
    pathEnums a = some e →
    exec (.setPath src a) s =
      .next (respond src 25
        (doneNoting
          ((match a.probation with
            | none => []
            | some x => if x.toNat < 10 ∨ 1000 < x.toNat then [.probation] else []) ++
            (match a.degrade with
            | none => []
            | some x => if x.toNat < 1 ∨ 31 < x.toNat then [.degrade] else []) ++
            (match a.shelterMs with | none => [] | some x => if 500 < x.toNat then [.shelter] else [])))
        (received src s)
        { received src s with
          framer := s.framer.set p
            { s.framer.get p with
              calmLen := e.calmLen.getD (s.framer.get p).calmLen, stormLen := e.stormLen.getD (s.framer.get p).stormLen }
          sup := s.sup.set p
            { s.sup.get p with
              probLen := match a.probation with
                | none => (s.sup.get p).probLen
                | some x => max 10 (min 1000 x.toNat)
              degradeThr := match a.degrade with
                | none => (s.sup.get p).degradeThr
                | some x => max 1 (min 31 x.toNat)
              exposed := e.exposed.getD (s.sup.get p).exposed
              shelterMs := match a.shelterMs with | none => (s.sup.get p).shelterMs | some x => min 500 x.toNat } })) ∧
  (∀ (src : Source) (a : PathArgs) (s : State), Passes 25 1 src s → 3 ≤ a.path.toNat ∨ pathEnums a = none →
    exec (.setPath src a) s = .next (respond src 25 (bare .badArgument) (received src s) (received src s))) ∧
  (∀ (src : Source) (a : StormArgs) (e : Polarities) (s : State), Passes 28 1 src s → polarities a = some e →
    exec (.setStorm src a) s =
      .next (respond src 28
        (doneNoting
          ((match a.strikeMs with
            | none => []
            | some x => if x.toNat < 500 ∨ 10000 < x.toNat ∨ x.toNat % 500 ≠ 0 then [.strikeTime] else []) ++
            (match a.stormClearMin with
            | none => []
            | some x => if x.toNat < 1 ∨ 60 < x.toNat then [.stormClear] else []) ++
            (match a.watchClearMin with
            | none => []
            | some x => if x.toNat < 1 ∨ 60 < x.toNat then [.watchClear] else [])))
        (received src s)
        { received src s with
          storm :=
            { s.storm with
              fieldPolarity := e.field.getD s.storm.fieldPolarity
              flashPolarity := e.flash.getD s.storm.flashPolarity
              surgePolarity := e.surge.getD s.storm.surgePolarity
              debounceMs := match a.debounceMs with | none => s.storm.debounceMs | some x => x.toNat
              strikeMs := match a.strikeMs with
                | none => s.storm.strikeMs
                | some x => max 500 (min 10000 x.toNat) / 500 * 500
              stormClearMin := match a.stormClearMin with
                | none => s.storm.stormClearMin
                | some x => max 1 (min 60 x.toNat)
              watchClearMin := match a.watchClearMin with
                | none => s.storm.watchClearMin
                | some x => max 1 (min 60 x.toNat)
              debounce :=
                if e.field.getD s.storm.fieldPolarity = s.storm.fieldPolarity then s.storm.debounce
                else some ((match a.debounceMs with | none => s.storm.debounceMs | some x => x.toNat) * 1000) } })) ∧
  (∀ (src : Source) (a : StormArgs) (s : State), Passes 28 1 src s → polarities a = none →
    exec (.setStorm src a) s = .next (respond src 28 (bare .badArgument) (received src s) (received src s))) ∧
  (∀ a : PathArgs,
    (pathEnums a = none ↔
      a.badPresence = true ∨ (∃ b, a.calmLen = some b ∧ b.toNat ∉ [1, 2, 4, 8, 16]) ∨
        (∃ b, a.stormLen = some b ∧ b.toNat ∉ [1, 2, 4, 8, 16]) ∨ ∃ b, a.exposure = some b ∧ 2 ≤ b.toNat) ∧
      ∀ e, pathEnums a = some e →
        e.calmLen = a.calmLen.map (fun b =>
            match b.toNat with | 1 => .l1 | 2 => .l2 | 4 => .l4 | 8 => .l8 | _ => .l16) ∧
          e.stormLen = a.stormLen.map (fun b =>
            match b.toNat with | 1 => .l1 | 2 => .l2 | 4 => .l4 | 8 => .l8 | _ => .l16) ∧
          e.exposed = a.exposure.map (fun b => decide (b = 1))) ∧
  ∀ a : StormArgs,
    (polarities a = none ↔
      a.badPresence = true ∨ (∃ b, a.fieldPolarity = some b ∧ 2 ≤ b.toNat) ∨
        (∃ b, a.flashPolarity = some b ∧ 2 ≤ b.toNat) ∨ ∃ b, a.surgePolarity = some b ∧ 2 ≤ b.toNat) ∧
      ∀ e, polarities a = some e →
        e.field = a.fieldPolarity.map (fun b => if b = 0 then .high else .low) ∧
          e.flash = a.flashPolarity.map (fun b => if b = 0 then .high else .low) ∧
          e.surge = a.surgePolarity.map (fun b => if b = 0 then .high else .low)

/-- R74, R72: SET-RADIO-TIMERS writes the settings given and restarts, starts or stops the timer that runs in the present
mode. WAKE-RADIO wakes a W in STANDBY into WARMUP for 250 ms and returns one in IDLE to ACTIVE, raising RADIO-POWER; in
ACTIVE it restarts the idle timer, in WARMUP it changes nothing. -/
def Obligations.RadioCommands : Prop :=
  (∀ (src : Source) (a : RadioArgs) (i j : Nat) (s : State), Passes 26 1 src s → a.badPresence = false →
    i = (match a.idle with | none => s.radio.idleSet | some x => x.toNat) →
    j = (match a.standby with | none => s.radio.standbySet | some x => x.toNat) →
    exec (.setRadioTimers src a) s =
      .next (respond src 26 (bare .done) (received src s)
        { received src s with
          radio :=
            { s.radio with
              idleSet := i
              standbySet := j
              idleTimer :=
                if a.idle ≠ none ∧ s.radio.mode = .active then
                  (if s.storm.effective = .calm ∧ i ≠ 0 then some (i * 100000) else none)
                else s.radio.idleTimer
              standbyTimer :=
                if a.standby ≠ none ∧ s.radio.mode = .idle then
                  (if s.storm.effective = .calm ∧ j ≠ 0 then some (j * 5000000) else none)
                else s.radio.standbyTimer } })) ∧
  (∀ (src : Source) (a : RadioArgs) (s : State), Passes 26 1 src s → a.badPresence = true →
    exec (.setRadioTimers src a) s = .next (respond src 26 (bare .badArgument) (received src s) (received src s))) ∧
  (∀ (src : Source) (s : State), Passes 27 1 src s → s.radio.mode = .standby →
    exec (.wakeRadio src) s =
      .next (respond src 27 (bare .done) (received src s)
        (raise kindRadioPower
          { received src s with radio := { s.radio with mode := .warmup, warmTimer := some 250000 } }))) ∧
  (∀ (src : Source) (s : State), Passes 27 1 src s → s.radio.mode = .idle →
    exec (.wakeRadio src) s =
      .next (respond src 27 (bare .done) (received src s)
        (raise kindRadioPower
          { received src s with
            radio :=
              { s.radio with
                mode := .active
                standbyTimer := none
                idleTimer :=
                  if s.storm.effective = .calm ∧ s.radio.idleSet ≠ 0 then some (s.radio.idleSet * 100000) else none } }))) ∧
  (∀ (src : Source) (s : State), Passes 27 1 src s → s.radio.mode = .active →
    exec (.wakeRadio src) s =
      .next (respond src 27 (bare .done) (received src s)
        { received src s with
          radio :=
            { s.radio with
              idleTimer :=
                if s.storm.effective = .calm ∧ s.radio.idleSet ≠ 0 then some (s.radio.idleSet * 100000) else none } })) ∧
  ∀ (src : Source) (s : State), Passes 27 1 src s → s.radio.mode = .warmup →
    exec (.wakeRadio src) s = .next (respond src 27 (bare .done) (received src s) (received src s))

/-- R35, R70, R71, R72, R66: the idle timer's expiry takes W into IDLE and starts the standby timer; the standby timer's
takes it into STANDBY and the path into OFF, its queue emptied and each copy counted in its purged counter; the warm-up
timer's takes it into ACTIVE and the path out of OFF; each raises RADIO-POWER. The shelter timer's expiry takes a path
into ACQUIRE with no delay estimate. -/
def Obligations.RadioAndShelterTimersExpire : Prop :=
  (∀ s : State, s.radio.idleTimer = some 0 → s.radio.mode = .active →
    exec .idleTimerExpiry s =
      .next (raise kindRadioPower
        { s with
          radio :=
            { s.radio with
              mode := .idle
              idleTimer := none
              standbyTimer :=
                if s.storm.effective = .calm ∧ s.radio.standbySet ≠ 0 then some (s.radio.standbySet * 5000000)
                else none } })) ∧
  (∀ s : State, s.radio.standbyTimer = some 0 → s.radio.mode = .idle →
    ∃ t : State,
      exec .standbyTimerExpiry s = .next t ∧ t.radio = { s.radio with mode := .standby, standbyTimer := none } ∧
        pstate t .w = .off ∧ (pstate s .w ≠ .off → Purged s t .w ∧ (t.sup.get .w).delay = none) ∧
        (∀ q, q ≠ .w → (pstate s q = .off ↔ offCause s q = true) → QueueKept s t q) ∧
        Raised kindRadioPower t ∧
        (t.plan, t.rejoin, t.storm, t.holdUp, t.ports, t.out) = (s.plan, s.rejoin, s.storm, s.holdUp, s.ports, s.out)) ∧
  (∀ s : State, s.radio.warmTimer = some 0 → s.radio.mode = .warmup →
    ∃ t : State,
      exec .warmupTimerExpiry s = .next t ∧
        t.radio =
          { s.radio with
            mode := .active
            warmTimer := none
            idleTimer :=
              if s.storm.effective = .calm ∧ s.radio.idleSet ≠ 0 then some (s.radio.idleSet * 100000) else none } ∧
        (pstate s .w = .off → (s.sup.get .w).enable = true → isParked s = false → pstate t .w = .acquire) ∧
        Raised kindRadioPower t ∧
        (t.plan, t.rejoin, t.storm, t.holdUp, t.ports, t.out) = (s.plan, s.rejoin, s.storm, s.holdUp, s.ports, s.out)) ∧
  ∀ (p : Path) (s : State), (s.sup.get p).shelterTimer = some 0 →
    ∃ t : State,
      exec (.shelterTimerExpiry p) s = .next t ∧ pstate t p = .acquire ∧ (t.sup.get p).shelterTimer = none ∧
        (t.sup.get p).delay = none ∧ (t.sup.get p).acqRun = 0 ∧ (t.framer.get p).expected = none ∧
        (t.plan, t.radio, t.rejoin, t.storm, t.holdUp, t.ports, t.out) =
          (s.plan, s.radio, s.rejoin, s.storm, s.holdUp, s.ports, s.out)

/-- R61, R46, R119: in ACQUIRE a GOOD header that extends the run lengthens it, the third in a row takes the path into
PROBATION with all counts 0 and an expected instant 1,000 µs on; one that does not extend it starts a run of 1; a header
that is not GOOD empties it. A GOOD header leaves the echo record and the peer's level, with 10 s to the peer being
forgotten. That an own-role header counts only when its check passes is read from the spec by inference (assumption log
11), and that the expected instant is one of the reference clock is assumption log 18. -/
def Obligations.AcquisitionCompletes : Prop :=
  (∀ (p : Path) (a : HeaderArrival) (s : State), pstate s p = .acquire → (s.framer.get p).expected = none →
    headerGood s a = true → extendsRun s p a = true → 2 ≤ (s.sup.get p).acqRun →
    ∃ t : State,
      exec (.headerReceived p a) s = .next t ∧ exec (.acquisitionComplete p a) s = .next t ∧ pstate t p = .probation ∧
        ((t.sup.get p).probCount, (t.sup.get p).recCount, (t.sup.get p).missRun) = (0, 0, 0) ∧
        (t.framer.get p).expected = some (a.arrivalRef + 1000) ∧
        (t.framer.get p).echo = some { sendTime := a.header.sendTime.toNat, arrivalRef := a.arrivalRef } ∧
        t.storm.peer = a.header.level ∧ t.storm.forgetTimer = some 10000000 ∧
        (t.plan, t.rejoin, t.holdUp, t.ports, t.out) = (s.plan, s.rejoin, s.holdUp, s.ports, s.out)) ∧
  (∀ (p : Path) (a : HeaderArrival) (s : State), pstate s p = .acquire → (s.framer.get p).expected = none →
    headerGood s a = true → (extendsRun s p a = true → (s.sup.get p).acqRun < 2) →
    ∃ t : State,
      exec (.headerReceived p a) s = .next t ∧ pstate t p = .acquire ∧
        (t.sup.get p).acqRun = (if extendsRun s p a = true then (s.sup.get p).acqRun + 1 else 1) ∧
        (t.framer.get p).expected = none ∧
        (t.framer.get p).echo = some { sendTime := a.header.sendTime.toNat, arrivalRef := a.arrivalRef } ∧
        t.storm.peer = a.header.level) ∧
  ∀ (p : Path) (a : HeaderArrival) (s : State), pstate s p = .acquire → (s.framer.get p).expected = none →
    headerGood s a = false →
    ∃ t : State,
      exec (.headerReceived p a) s = .next t ∧ pstate t p = .acquire ∧ (t.sup.get p).acqRun = 0 ∧
        t = { s with sup := t.sup, framer := t.framer } ∧
        (t.framer.get p).ownRoleHeaders =
          (if a.checkPasses = true ∧ a.header.role = s.role then oneMore (s.framer.get p).ownRoleHeaders
           else (s.framer.get p).ownRoleHeaders)

/-- R46, R48, R55, R60, R62, R63, R64, R65, R160, R166. In the states that track headers one that arrives more than 4 µs
from the expected instant is not taken. A GOOD one ends the miss run, is expected again 1,000 µs on, becomes the echo
record, gives the last good length, and its superframe's blocks are judged at that length unless it is silent. It sets the
peer level, which the effective level, W's power control, LEVEL-CHANGE and IN-STORM follow, and the peer parked flag, with
which PEER-PARKED begins and ends (R73, R119, R120, R121, R184). A first header that is not GOOD counts a header failure
and moves the expected instant on; a FAILED one's superframe is decoded at the last good length, and a MISSING one sets
the probation or the recovery count to 0. In SWEEP a first MISSING one is a counted report that adds 1 to the step in
progress, and may complete the step or the sweep. A second result in a row that is not GOOD loses alignment: ACQUIRE, or
SHELTER by an order the loss itself brought; the loss is counted, the estimate unset, PATH-LOST raised where the path was
UP, DEGRADED or in SWEEP, and a sweep running on it ends with PATH-LOST. Path A of a PARKED terminal with its enable on
takes headers without a change of its state: a GOOD one sets the expected instant, two results in a row that are not GOOD
unset it; the other OFF paths and paths in SHELTER take none. Two counted losses on two paths within 2,000 µs give one
coincident-loss indication, taken as a strike; an excluded loss gives none. That an own-role header counts only when its
check passes, and that the expected instant is one of the reference clock, is read from the spec by inference (assumption
logs 11 and 18). That a second MISSING result in SWEEP gives no report (assumption log 51), and that a header result drops
a superframe whose blocks are not all judged without a report (assumption log 17), is the model's choice. -/
def Obligations.HeadersAreTrackedAndLost : Prop :=
  (∀ (p : Path) (a : HeaderArrival) (e : Nat) (s : State), Tracked s p →
    (s.framer.get p).expected = some e → a.arrivalRef + 4 < e ∨ e + 4 < a.arrivalRef →
    exec (.headerReceived p a) s = .next s) ∧
  (∀ (p : Path) (a : HeaderArrival) (len : BlockLen) (s : State), Tracked s p →
    inWindow (s.framer.get p) a.arrivalRef = true → headerGood s a = true →
    lengthOfCode a.header.lengthCode = some len →
    ∃ t : State,
      exec (.headerReceived p a) s = .next t ∧ (t.sup.get p).missRun = 0 ∧
        (t.sup.get p).probCount = (s.sup.get p).probCount ∧
        (1 ≤ (s.sup.get p).degradeThr → (t.sup.get p).recCount = (s.sup.get p).recCount) ∧
        (t.framer.get p).expected = some (a.arrivalRef + 1000) ∧
        (t.framer.get p).echo = some { sendTime := a.header.sendTime.toNat, arrivalRef := a.arrivalRef } ∧
        (t.framer.get p).lastGood = len ∧
        (t.framer.get p).rx =
          (if a.header.parked = true ∨ a.header.mutingNext = true then none
           else some { result := .good, length := len, judged := 0, failed := 0, partSweep := false }) ∧
        (t.storm.peer, t.storm.forgetTimer, t.storm.peerParked) = (a.header.level, some 10000000, a.header.parked) ∧
        (s.storm.effective = higher s.storm.own s.storm.peer →
          t.storm.effective = higher s.storm.own a.header.level ∧ RadioFollows s t ∧ LevelTold s t) ∧
        condHolds t kindPeerParked = a.header.parked ∧
        (condHolds s kindPeerParked = false → a.header.parked = true → Raised kindPeerParked t) ∧
        (a.header.level = s.storm.peer → s.storm.effective = higher s.storm.own s.storm.peer →
          a.header.parked = false → a.header.mutingNext = false → pstate s p ≠ .probation ∨ (s.sup.get p).delay ≠ none →
          ∀ q, pstate t q = pstate s q) ∧
        (t.plan, t.rejoin, t.holdUp, t.ports, t.out) = (s.plan, s.rejoin, s.holdUp, s.ports, s.out)) ∧
  (∀ (p : Path) (a : HeaderArrival) (e : Nat) (s : State), Tracked s p →
    (s.sup.get p).missRun = 0 → (s.framer.get p).expected = some e → inWindow (s.framer.get p) a.arrivalRef = true →
    headerGood s a = false →
    exec (.headerReceived p a) s =
      .next
        { s with
          sup := s.sup.upd p fun v => { v with missRun := 1 }
          framer := s.framer.upd p fun f =>
            { f with
              expected := some (e + 1000)
              headerFailures := oneMore f.headerFailures
              ownRoleHeaders :=
                if a.checkPasses = true ∧ a.header.role = s.role then oneMore f.ownRoleHeaders else f.ownRoleHeaders
              rx := some { result := .failed, length := f.lastGood, judged := 0, failed := 0, partSweep := false } } }) ∧
  (∀ (p : Path) (e : Nat) (s : State), pstate s p = .probation ∨ pstate s p = .up ∨ pstate s p = .degraded →
    (s.sup.get p).missRun = 0 → 1 ≤ (s.sup.get p).degradeThr →
    1 ≤ (s.sup.get p).probLen → (s.framer.get p).expected = some e → e + 4 ≤ s.clock.ref →
    ∃ t : State,
      exec (.headerMissing p) s = .next t ∧ t = { s with sup := t.sup, framer := t.framer } ∧
        pstate t p = pstate s p ∧ (t.sup.get p).missRun = 1 ∧ (t.framer.get p).expected = some (e + 1000) ∧
        (pstate s p = .probation → (t.sup.get p).probCount = 0) ∧ (pstate s p = .degraded → (t.sup.get p).recCount = 0) ∧
        (t.framer.get p).headerFailures = oneMore (s.framer.get p).headerFailures ∧ (t.framer.get p).rx = none) ∧
  (∀ (p : Path) (c : CurrentSweep) (e : Nat) (s : State), pstate s p = .sweep → s.sweep.engine = .running c → c.path = p →
    (s.sup.get p).missRun = 0 → (s.framer.get p).expected = some e → e + 4 ≤ s.clock.ref →
    ∃ t : State,
      exec (.headerMissing p) s = .next t ∧ (t.sup.get p).missRun = 1 ∧ (t.framer.get p).expected = some (e + 1000) ∧
        (t.framer.get p).headerFailures = oneMore (s.framer.get p).headerFailures ∧ (t.framer.get p).rx = none ∧
        (c.taken < 63 → c.counts.length < 32 →
          pstate t p = .sweep ∧
            t.sweep = { s.sweep with engine := .running { c with taken := c.taken + 1, failed := c.failed + 1 } }) ∧
        (c.taken = 63 → c.counts.length + 1 < 32 →
          exec (.sweepStepComplete p .missing) s = .next t ∧ pstate t p = .sweep ∧
            t.sweep =
              { s.sweep with
                engine := .running { path := p, counts := c.counts ++ [c.failed + 1], taken := 0, failed := 0 } }) ∧
        (c.taken = 63 → c.counts.length = 31 →
          exec (.sweepStepComplete p .missing) s = .next t ∧ pstate t p = .up ∧ Raised kindSweepEnd t ∧
            t.sweep =
              { engine := .idle
                last := some
                  { path := p, outcome := .complete, byPark := false, counts := c.counts ++ [c.failed + 1],
                    margin := ((c.counts ++ [c.failed + 1]).takeWhile fun k => decide (k = 0)).length } }) ∧
        (t.plan, t.radio, t.rejoin, t.storm, t.holdUp, t.ports, t.out) =
          (s.plan, s.radio, s.rejoin, s.storm, s.holdUp, s.ports, s.out)) ∧
  (∀ (a : HeaderArrival) (s : State), isParked s = true → pstate s .a = .off → (s.sup.get .a).enable = true →
    (inWindow (s.framer.get .a) a.arrivalRef = false → exec (.headerReceived .a a) s = .next s) ∧
      (∀ len, inWindow (s.framer.get .a) a.arrivalRef = true → headerGood s a = true →
        lengthOfCode a.header.lengthCode = some len →
        ∃ t : State,
          exec (.headerReceived .a a) s = .next t ∧ pstate t .a = .off ∧
            (t.framer.get .a).expected = some (a.arrivalRef + 1000) ∧ (t.framer.get .a).parkedMisses = 0 ∧
            (t.framer.get .a).echo = some { sendTime := a.header.sendTime.toNat, arrivalRef := a.arrivalRef } ∧
            (t.framer.get .a).rx = none ∧ (t.sup.get .a).delay = (s.sup.get .a).delay ∧
            (t.storm.peer, t.storm.forgetTimer, t.storm.peerParked) = (a.header.level, some 10000000, a.header.parked) ∧
            (t.plan, t.rejoin, t.holdUp, t.ports, t.out) = (s.plan, s.rejoin, s.holdUp, s.ports, s.out)) ∧
      ∀ (i : Instr) (e : Option Nat), e = (s.framer.get .a).expected →
        (i = .headerMissing .a ∧ ∃ n, e = some n ∧ n + 4 ≤ s.clock.ref) ∨
          (i = .headerReceived .a a ∧ inWindow (s.framer.get .a) a.arrivalRef = true ∧ headerGood s a = false) →
        ∃ t : State,
          exec i s = .next t ∧ t = { s with framer := s.framer.set .a (t.framer.get .a) } ∧
            (t.framer.get .a).echo = (s.framer.get .a).echo ∧
            (e = none → (t.framer.get .a).expected = none) ∧
            (∀ n, e = some n → (s.framer.get .a).parkedMisses = 0 →
              (t.framer.get .a).expected = some (n + 1000) ∧ (t.framer.get .a).parkedMisses = 1) ∧
            (e ≠ none → 1 ≤ (s.framer.get .a).parkedMisses →
              (t.framer.get .a).expected = none ∧ (t.framer.get .a).parkedMisses = 0)) ∧
  (∀ (p : Path) (a : HeaderArrival) (s : State),
    pstate s p = .shelter ∨ (pstate s p = .off ∧ (p ≠ .a ∨ isParked s = false ∨ (s.sup.get .a).enable = false)) →
    exec (.headerReceived p a) s = .next s ∧ exec (.headerMissing p) s = .next s) ∧
  ∀ (p : Path) (ev : RxEvent) (e : Nat) (s : State), Tracked s p →
    1 ≤ (s.sup.get p).missRun → (s.framer.get p).expected = some e →
    (ev = .missing ∧ e + 4 ≤ s.clock.ref) ∨
      (∃ a, ev = .header a ∧ inWindow (s.framer.get p) a.arrivalRef = true ∧ headerGood s a = false) →
    ∃ t : State,
      exec (.alignmentLoss p ev) s = .next t ∧ (ev = .missing → exec (.headerMissing p) s = .next t) ∧
        (∀ a, ev = .header a → exec (.headerReceived p a) s = .next t) ∧
        (pstate t p = .acquire ∨ pstate t p = .shelter) ∧ (t.sup.get p).alignLosses = oneMore (s.sup.get p).alignLosses ∧
        (t.sup.get p).delay = none ∧ (t.framer.get p).expected = none ∧ (t.framer.get p).rx = none ∧
        (t.framer.get p).headerFailures = oneMore (s.framer.get p).headerFailures ∧
        (pstate s p ≠ .probation → Raised kindPathLost t) ∧
        (∀ c, pstate s p = .sweep → s.sweep.engine = .running c → c.path = p → EndsPathLost c t) ∧
        (t.plan, t.rejoin, t.ports, t.out) = (s.plan, s.rejoin, s.ports, s.out) ∧
        (LossExcluded s p → ∀ q, (t.sup.get q).lastLoss = (s.sup.get q).lastLoss) ∧
        (LossExcluded s p ∨ (∀ q, ¬LossPartner s p q) →
          t.holdUp = s.holdUp ∧ t.storm.own = s.storm.own ∧ t.time.coincident = s.time.coincident) ∧
        (¬LossExcluded s p →
          (∀ q, q ≠ p → ¬LossPartner s p q → (t.sup.get q).lastLoss = (s.sup.get q).lastLoss) ∧
            ((∀ q, ¬LossPartner s p q) → (t.sup.get p).lastLoss = some { instant := s.clock.ref, used := false }) ∧
            ((∃ q, LossPartner s p q) →
              (t.sup.get p).lastLoss = some { instant := s.clock.ref, used := true } ∧
                (∀ q, LossPartner s p q →
                  (t.sup.get q).lastLoss = ((s.sup.get q).lastLoss).map fun l => { l with used := true }) ∧
                t.time.coincident = oneMore s.time.coincident ∧ t.holdUp.strikes = oneMore s.holdUp.strikes ∧
                Raised kindStrike t ∧ t.storm.own = .strike))

/-- R152: on the epoch reference path a GOOD header whose epoch differs from the active one adds one to the split count, up
to 20, and the one that brings it to 20 begins EPOCH-SPLIT; a GOOD header with the active epoch sets the count to 0 and ends
it; each is the peer epoch seen. (While the header's level leaves the effective level as it is; assumption log 25 says what
comes first where it does not.) A GOOD header on another path is not counted. A change of the reference path, or its loss,
sets the count to 0 and leaves the condition as it is. -/
def Obligations.EpochSplitBeginsAndEnds : Prop :=
  (∀ (p : Path) (a : HeaderArrival) (s : State), s.switch.refPath = some p → firstUp s = some p →
    inWindow (s.framer.get p) a.arrivalRef = true → headerGood s a = true → 1 ≤ (s.sup.get p).degradeThr →
    a.header.level = s.storm.peer → s.storm.effective = higher s.storm.own s.storm.peer →
    a.header.epoch ≠ s.plan.epoch → s.switch.split = 19 →
    ∃ t : State,
      exec (.headerReceived p a) s = .next t ∧ exec (.epochSplit p a) s = .next t ∧ t.switch.split = 20 ∧
        t.switch.peerEpoch = some a.header.epoch ∧ condHolds t kindEpochSplit = true ∧
        (condHolds s kindEpochSplit = false → Raised kindEpochSplit t) ∧ t.plan = s.plan ∧
        t.switch.engine = s.switch.engine) ∧
  (∀ (p : Path) (a : HeaderArrival) (s : State), s.switch.refPath = some p → firstUp s = some p →
    inWindow (s.framer.get p) a.arrivalRef = true → headerGood s a = true → 1 ≤ (s.sup.get p).degradeThr →
    a.header.level = s.storm.peer → s.storm.effective = higher s.storm.own s.storm.peer →
    a.header.epoch ≠ s.plan.epoch →
    ∃ t : State,
      exec (.headerReceived p a) s = .next t ∧ t.switch.split = min 20 (s.switch.split + 1) ∧
        t.switch.peerEpoch = some a.header.epoch ∧ t.switch.refPath = some p ∧
        (s.switch.split + 1 < 20 → condHolds t kindEpochSplit = condHolds s kindEpochSplit) ∧
        (20 ≤ s.switch.split + 1 → condHolds t kindEpochSplit = true)) ∧
  (∀ (p : Path) (a : HeaderArrival) (s : State), s.switch.refPath = some p → firstUp s = some p →
    inWindow (s.framer.get p) a.arrivalRef = true → headerGood s a = true → 1 ≤ (s.sup.get p).degradeThr →
    a.header.level = s.storm.peer → s.storm.effective = higher s.storm.own s.storm.peer →
    a.header.epoch = s.plan.epoch →
    ∃ t : State,
      exec (.headerReceived p a) s = .next t ∧ t.switch.split = 0 ∧ t.switch.peerEpoch = some a.header.epoch ∧
        condHolds t kindEpochSplit = false) ∧
  (∀ (p : Path) (a : HeaderArrival) (s : State), s.switch.refPath ≠ some p →
    ∃ t : State,
      exec (.headerReceived p a) s = .next t ∧ t.switch.peerEpoch = s.switch.peerEpoch ∧
        condHolds t kindEpochSplit = condHolds s kindEpochSplit ∧
        (t.switch.split = 0 ∨ (t.switch.split = s.switch.split ∧ t.switch.refPath = s.switch.refPath))) ∧
  ∀ (src : Source) (b v : Byte) (p : Path) (s : State), Passes 24 1 src s → pathOf b = some p → v = 0 →
    s.switch.refPath = some p →
    ∃ t : State,
      exec (.pathEnable src b v) s = .next t ∧ t.switch.refPath = firstUp t ∧ t.switch.refPath ≠ some p ∧
        t.switch.split = 0 ∧ t.switch.peerEpoch = s.switch.peerEpoch ∧
        condHolds t kindEpochSplit = condHolds s kindEpochSplit

/-- R62, R63, R53, R78: the last block of a clean superframe completes probation when it fills the probation length and
the delay estimate is set: the path enters UP and PATH-UP is raised, and a MAST's record in HOLDOVER is LOCKED on it. The
probation count rises by one at a clean superframe, stays where it waits for the estimate, and is 0 after any other. In
DEGRADED the recovery count rises by one at a clean superframe and is 0 after any other, and the hundredth clean
superframe in a row returns the path to UP. In UP a superframe with as many FAILED blocks as the degrade threshold takes
the path into DEGRADED with its estimate and a recovery count of 0, and PATH-DEGRADED holds; with fewer the path stays UP.
That a report counts every FAILED block of its superframe is read from the spec by inference (assumption log 31). -/
def Obligations.ProbationRecoveryAndDegradation : Prop :=
  (∀ (p : Path) (r : RxSuperframe) (b : BlockArrival) (s : State), pstate s p = .probation →
    (s.framer.get p).rx = some r → r.result = .good → r.failed = 0 → blockFails r b = false →
    blocksOf p r.length ≤ r.judged + 1 → (s.sup.get p).probLen ≤ (s.sup.get p).probCount + 1 →
    (s.sup.get p).delay ≠ none →
    ∃ t : State,
      exec (.blockJudged p b) s = .next t ∧ exec (.probationComplete p (.block b)) s = .next t ∧ pstate t p = .up ∧
        Raised kindPathUp t ∧ (t.framer.get p).rx = none ∧
        (s.role = .mast → s.time.state = .holdover → s.time.source = none → firstUp s = none →
          t.time.source = firstUp t ∧ (firstUp t ≠ none → t.time.state = .locked ∧ Raised kindTimeSource t) ∧
            t.clock = s.clock) ∧
        (t.plan, t.radio, t.rejoin, t.storm, t.holdUp, t.ports, t.out) =
          (s.plan, s.radio, s.rejoin, s.storm, s.holdUp, s.ports, s.out)) ∧
  (∀ (p : Path) (r : RxSuperframe) (b : BlockArrival) (n : Nat) (s : State), pstate s p = .probation →
    (s.framer.get p).rx = some r → r.result ≠ .missing → blocksOf p r.length ≤ r.judged + 1 →
    n =
      (if r.result = .good ∧ r.failed = 0 ∧ blockFails r b = false then
        (if (s.sup.get p).probMet = true ∧ (s.sup.get p).delay = none ∧ (s.sup.get p).probLen ≤ (s.sup.get p).probCount then
          (s.sup.get p).probCount
        else (s.sup.get p).probCount + 1)
      else 0) →
    ∃ t : State,
      exec (.blockJudged p b) s = .next t ∧ (t.sup.get p).probCount = n ∧ (t.framer.get p).rx = none ∧
        pstate t p = (if (s.sup.get p).probLen ≤ n ∧ (s.sup.get p).delay ≠ none then .up else .probation)) ∧
  (∀ (p : Path) (r : RxSuperframe) (b : BlockArrival) (s : State), pstate s p = .degraded →
    (s.framer.get p).rx = some r → r.result = .good → r.failed = 0 → blockFails r b = false →
    blocksOf p r.length ≤ r.judged + 1 → 99 ≤ (s.sup.get p).recCount →
    ∃ t : State,
      exec (.blockJudged p b) s = .next t ∧ exec (.recoveryComplete p (.block b)) s = .next t ∧ pstate t p = .up ∧
        (t.framer.get p).rx = none ∧
        (t.plan, t.radio, t.storm, t.holdUp, t.ports) = (s.plan, s.radio, s.storm, s.holdUp, s.ports)) ∧
  (∀ (p : Path) (r : RxSuperframe) (b : BlockArrival) (n : Nat) (s : State), pstate s p = .degraded →
    (s.framer.get p).rx = some r → blocksOf p r.length ≤ r.judged + 1 →
    n = (if r.result = .good ∧ r.failed = 0 ∧ blockFails r b = false then (s.sup.get p).recCount + 1 else 0) →
    ∃ t : State,
      exec (.blockJudged p b) s = .next t ∧ (t.sup.get p).recCount = n ∧ (t.framer.get p).rx = none ∧
        (t.sup.get p).delay = (s.sup.get p).delay ∧ pstate t p = (if 100 ≤ n then .up else .degraded) ∧
        (n < 100 → ∀ q, pstate t q = pstate s q)) ∧
  ∀ (p : Path) (r : RxSuperframe) (b : BlockArrival) (n : Nat) (s : State), pstate s p = .up →
    (s.framer.get p).rx = some r → blocksOf p r.length ≤ r.judged + 1 →
    n = (if blockFails r b = true then r.failed + 1 else r.failed) →
    ∃ t : State,
      exec (.blockJudged p b) s = .next t ∧ (t.framer.get p).rx = none ∧ (t.sup.get p).delay = (s.sup.get p).delay ∧
        ((s.sup.get p).degradeThr ≤ n →
          pstate t p = .degraded ∧ (t.sup.get p).recCount = 0 ∧ condHolds t kindPathDegraded = true ∧
            (condHolds s kindPathDegraded = false → Raised kindPathDegraded t)) ∧
        (n < (s.sup.get p).degradeThr → ∀ q, pstate t q = pstate s q) ∧
        (t.plan, t.radio, t.storm, t.holdUp, t.ports) = (s.plan, s.radio, s.storm, s.holdUp, s.ports)

/-- R51, R52, R53, R57, R160: a block is FAILED with five corrupted bytes or more, missing check bytes or another length,
else CLEAN or CORRECTED, and moves that counter; outside UP and DEGRADED no cell is taken, in PROBATION the copies are
counted as discards, in UP and DEGRADED every cell but fill goes to rejoin in slot order; the superframe's last block does
the same ahead of the report. In SWEEP a block moves no counter of the framer and hands on no cell; the superframe's last
block counts a report and its FAILED blocks in the step in progress (every one of its superframe's: assumption log 31),
unless the path entered SWEEP during it. -/
def Obligations.BlocksAreJudged : Prop :=
  (∀ (p : Path) (r : RxSuperframe) (b : BlockArrival) (s : State), (s.framer.get p).rx = some r →
    r.judged + 1 < blocksOf p r.length → pstate s p ≠ .sweep →
    b.complete = false ∨ b.sentLength ≠ r.length ∨ 5 ≤ b.corrupted →
    exec (.blockJudged p b) s =
      .next (modFramer p (fun f =>
        { f with
          rx := some { r with judged := r.judged + 1, failed := r.failed + 1 }
          blocksFailed := oneMore f.blocksFailed }) s)) ∧
  (∀ (p : Path) (r : RxSuperframe) (b : BlockArrival) (s : State), (s.framer.get p).rx = some r →
    r.judged + 1 < blocksOf p r.length → pstate s p = .probation →
    b.complete = true → b.sentLength = r.length → b.corrupted < 5 →
    exec (.blockJudged p b) s =
      .next
        { s with
          framer := s.framer.upd p (fun f =>
            { f with
              rx := some { r with judged := r.judged + 1 }
              blocksClean := if b.corrupted = 0 then oneMore f.blocksClean else f.blocksClean
              blocksCorrected := if b.corrupted = 0 then f.blocksCorrected else oneMore f.blocksCorrected })
          sup := s.sup.upd p (fun v =>
            { v with
              probDiscards := min 65535 (v.probDiscards + (b.cells.filter fun c => !c.cell.fill).length) }) }) ∧
  (∀ (p : Path) (r : RxSuperframe) (b : BlockArrival) (s : State), (s.framer.get p).rx = some r →
    r.judged + 1 < blocksOf p r.length → pstate s p = .up ∨ pstate s p = .degraded →
    b.complete = true → b.sentLength = r.length → b.corrupted < 5 →
    exec (.blockJudged p b) s =
      .next (modFramer p (fun f => { f with rx := some { r with judged := r.judged + 1 } })
        ((b.cells.filter fun c => !c.cell.fill).foldl
          (fun t c => takeCopy { path := p, quality := if b.corrupted = 0 then .clean else .corrected, copy := c } t)
          (modFramer p (fun f =>
            { f with
              blocksClean := if b.corrupted = 0 then oneMore f.blocksClean else f.blocksClean
              blocksCorrected := if b.corrupted = 0 then f.blocksCorrected else oneMore f.blocksCorrected }) s)))) ∧
  (∀ (p : Path) (r : RxSuperframe) (b : BlockArrival) (n : Nat) (s : State), (s.framer.get p).rx = some r →
    pstate s p = .sweep → n = (if blockFails r b = true then r.failed + 1 else r.failed) →
    (r.judged + 1 < blocksOf p r.length →
      exec (.blockJudged p b) s =
        .next { s with framer := s.framer.upd p fun f => { f with rx := some { r with judged := r.judged + 1, failed := n } } }) ∧
      (blocksOf p r.length ≤ r.judged + 1 → r.result ≠ .missing →
        ∀ c, s.sweep.engine = .running c → c.path = p →
          (r.partSweep = true →
            exec (.blockJudged p b) s = .next { s with framer := s.framer.upd p fun f => { f with rx := none } }) ∧
            (r.partSweep = false → c.taken < 63 → c.counts.length < 32 →
              exec (.blockJudged p b) s =
                .next
                  { s with
                    framer := s.framer.upd p fun f => { f with rx := none }
                    sweep :=
                      { s.sweep with engine := .running { c with taken := c.taken + 1, failed := c.failed + n } } }))) ∧
  (∀ (p : Path) (r : RxSuperframe) (b : BlockArrival) (bad : Bool) (u : State) (s : State), (s.framer.get p).rx = some r →
    blocksOf p r.length ≤ r.judged + 1 → pstate s p ≠ .sweep →
    (bad = true ↔ b.complete = false ∨ b.sentLength ≠ r.length ∨ 5 ≤ b.corrupted) →
    u = modFramer p (fun f =>
      { f with
        blocksClean := if bad = false ∧ b.corrupted = 0 then oneMore f.blocksClean else f.blocksClean
        blocksCorrected := if bad = false ∧ b.corrupted ≠ 0 then oneMore f.blocksCorrected else f.blocksCorrected
        blocksFailed := if bad = true then oneMore f.blocksFailed else f.blocksFailed }) s →
    ∃ t : State,
      exec (.blockJudged p b) s = .next t ∧ (t.framer.get p) = { u.framer.get p with rx := none } ∧
        (∀ q, q ≠ p → t.framer.get q = s.framer.get q) ∧
        (t.sup.get p).probDiscards =
          (if pstate s p = .probation ∧ bad = false then
            min 65535 ((s.sup.get p).probDiscards + (b.cells.filter fun c => !c.cell.fill).length)
          else (s.sup.get p).probDiscards) ∧
        (t.rejoin, t.out) =
          (if (pstate s p = .up ∨ pstate s p = .degraded) ∧ bad = false then
            let v := (b.cells.filter fun c => !c.cell.fill).foldl
              (fun x c => takeCopy { path := p, quality := if b.corrupted = 0 then .clean else .corrected, copy := c } x) u
            (v.rejoin, v.out)
          else (s.rejoin, s.out))) ∧
  ∀ (p : Path) (b : BlockArrival) (s : State), (s.framer.get p).rx = none → exec (.blockJudged p b) s = .next s

/-! ### Storm levels, shelter, parking -/

/-- R40, R127, R128, R132: PARK enters PARKING with its limit ten superframe starts on, aborts any sweep and then places a
PARKING message with the strike counter, behind a NOTICE that the end of the sweep may bring; it is answered BUSY while
PARKING or with a switch in hand. WAKE takes a PARKED terminal ON-AIR and its enabled paths into ACQUIRE, and every
stream's next sequence number and budget count goes through it, as in a sound state whose paths are OFF and whose sweep
engine is IDLE all of dispatch does; it is answered DONE without effect ON-AIR and BUSY while PARKING. How the wait of ten
superframe starts counts the present one's is read from the spec by inference (assumption log 29). -/
def Obligations.ParkAndWake : Prop :=
  (∀ (src : Source) (s : State), Passes 29 1 src s → s.storm.parking = .onAir → s.switch.engine = .idle →
    ∃ u : State,
      exec (.park src) s = .next (respond src 29 (bare .accepted) (received src s) u) ∧
        u.storm =
          { s.storm with
            parking := .parking
              { left := if s.clock.link % 1000 = 0 ∧ s.clock.started = false then 11 else 10, moved := none } } ∧
        u.sweep.engine = .idle ∧
        (∀ c, s.sweep.engine = .running c → pstate u c.path = .up) ∧
        (∀ c, s.sweep.engine = .running c ∨ s.sweep.engine = .pending c ∨ s.sweep.engine = .suspended c →
          u.sweep.last = some
            { path := c.path, outcome := .aborted, byPark := true, counts := c.counts,
              margin := (c.counts.takeWhile fun n => decide (n = 0)).length } ∧ Raised kindSweepEnd u) ∧
        (s.sweep.engine = .idle →
          u.sweep = s.sweep ∧
            u.disp = (placeAwaited (.parking s.role (BitVec.ofNat 16 s.holdUp.strikes)) .park s).disp) ∧
        (s.disp.outbox.length < 31 →
          ∃ notices : List OutMsg, notices.length ≤ 1 ∧ (∀ x ∈ notices, ∃ k, x = { msg := .notice s.role k, awaited := .no }) ∧
            u.disp.outbox =
              s.disp.outbox ++ notices ++
                [{ msg := .parking s.role (BitVec.ofNat 16 s.holdUp.strikes), awaited := .park }]) ∧
        (u.plan, u.framer, u.radio, u.rejoin, u.holdUp, u.out) = (s.plan, s.framer, s.radio, s.rejoin, s.holdUp, s.out)) ∧
  (∀ (src : Source) (s : State), Passes 29 1 src s → isParking s = true ∨ s.switch.engine ≠ .idle →
    exec (.park src) s = .next (respond src 29 (bare .busy) (received src s) (received src s))) ∧
  (∀ (src : Source) (s : State), Passes 30 1 src s → s.storm.parking = .parked →
    ∃ u : State,
      exec (.wake src) s = .next (respond src 30 (bare .done) (received src s) u) ∧
        u.storm = { s.storm with parking := .onAir } ∧
        (∀ p, pstate s p = .off → (s.sup.get p).enable = true →
          (p = .w → s.radio.mode = .active ∨ s.radio.mode = .idle) → pstate u p = .acquire) ∧
        (∀ p, (s.sup.get p).enable = false → pstate u p = .off) ∧ NumberingKept s u ∧
        (DerivedSound s → s.sweep.engine = .idle → (∀ p, pstate s p = .off) → u.disp = s.disp) ∧
        (u.plan, u.radio, u.rejoin, u.holdUp, u.out) = (s.plan, s.radio, s.rejoin, s.holdUp, s.out)) ∧
  (∀ (src : Source) (s : State), Passes 30 1 src s → s.storm.parking = .onAir →
    exec (.wake src) s = .next (respond src 30 (bare .done) (received src s) (received src s))) ∧
  ∀ (src : Source) (s : State), Passes 30 1 src s → isParking s = true →
    exec (.wake src) s = .next (respond src 30 (bare .busy) (received src s) (received src s))

/-- R129, R102, R105, R40, R142: the park completes at a superframe start at which its message has drained, or at the
limit: every path is OFF, the queues are empty, each of their copies counted in its path's purged counter, the outbox
holds at most NOTICEs of what happened at this moment, every stream's next sequence number and budget count is kept, every
window stays laid out, unanchored and empty, its cells counted as flushed, with a PARK marker for each but stream 0's, and
a cancel run ends. That the limit is met at the start at which one start is left is read from the spec by inference
(assumption log 29). -/
def Obligations.ParkCompletes : Prop :=
  ∀ (s : State) (w : Drain), boundary s = true → s.storm.parking = .parking w →
    ∃ t : State,
      ((∃ q, w.moved = some q ∧ drainedTo q s = true) → exec .parkComplete s = .next t) ∧
        (w.left ≤ 1 → exec .parkingLimit s = .next t) ∧
        t.storm = { s.storm with parking := .parked } ∧
        (∀ p, pstate t p = .off ∧ Purged s t p) ∧
        (∀ m ∈ t.disp.outbox, ∃ k, m.msg = .notice s.role k) ∧
        NumberingKept s t ∧ t.disp.outboxFull = s.disp.outboxFull ∧
        (∀ i, (windowOf t i).map (fun v => (v.span, v.offset)) = (windowOf s i).map fun v => (v.span, v.offset)) ∧
        (∀ i v, windowOf t i = some v → v.anchored = false ∧ v.strayRun = 0 ∧ v.next = none ∧ heldIn t v = []) ∧
        (PlanSound s → StoreSound s → ∀ i : StreamIx,
          sget t.rejoin.counts i =
            match windowOf s i with
            | none => sget s.rejoin.counts i
            | some v =>
              { sget s.rejoin.counts i with
                flushed := min 65535 ((sget s.rejoin.counts i).flushed + (heldIn s v).length) }) ∧
        (t.rejoin.arrivals, t.rejoin.unknownMessages) = (s.rejoin.arrivals, s.rejoin.unknownMessages) ∧
        t.out.egress = s.out.egress ++
          ((allStreams.filter fun i => decide (i ≠ 0) && (windowOf s i).isSome).map fun i => .restart i .park) ∧
        t.switch.run = none ∧ (t.plan, t.radio, t.holdUp, t.ports) = (s.plan, s.radio, s.holdUp, s.ports)

/-- R73, R112, R115, R121: a change of FIELD's line starts the debounce, whose expiry takes the condition: asserted, it
counts and takes an own level of CALM to WATCH and stops the watch-clear timer; the effective level follows, with W's
power control, LEVEL-CHANGE and IN-STORM; deasserted at WATCH, it starts that timer. With a debounce time of 0 the change
is taken at once. That a row which names the level the line already has changes nothing is the model's choice (assumption
log 20). -/
def Obligations.FieldIsDebouncedAndTaken : Prop :=
  (∀ (b : Bool) (s : State), s.fieldLine ≠ b → s.storm.debounceMs ≠ 0 →
    exec (.fieldChange b) s =
      .next { s with fieldLine := b, storm := { s.storm with debounce := some (s.storm.debounceMs * 1000) } }) ∧
  (∀ (b : Bool) (s : State), s.fieldLine ≠ b → s.storm.debounceMs = 0 →
    exec (.fieldChange b) s =
      exec .fieldDebounceExpiry { s with fieldLine := b, storm := { s.storm with debounce := some 0 } }) ∧
  (∀ (b : Bool) (s : State), s.fieldLine = b → exec (.fieldChange b) s = .next s) ∧
  (∀ s : State, s.storm.debounce = some 0 →
    (s.storm.fieldTaken = true ↔ (s.storm.fieldPolarity = .high ↔ s.fieldLine = true)) →
    exec .fieldDebounceExpiry s = .next { s with storm := { s.storm with debounce := none } }) ∧
  (∀ s : State, s.storm.debounce = some 0 → s.storm.fieldTaken = false →
    (s.storm.fieldPolarity = .high ↔ s.fieldLine = true) →
    ∃ t : State,
      exec .fieldDebounceExpiry s = .next t ∧ t.storm.fieldTaken = true ∧ t.storm.debounce = none ∧
        t.storm.fieldAssertions = oneMore s.storm.fieldAssertions ∧
        t.storm.own = (if s.storm.own = .calm then .watch else s.storm.own) ∧
        (s.storm.effective = higher s.storm.own s.storm.peer →
          t.storm.effective = higher t.storm.own s.storm.peer ∧ RadioFollows s t ∧ LevelTold s t) ∧
        (s.storm.own = .calm → t.holdUp = { s.holdUp with levelClass := .watch }) ∧
        (s.storm.own = .calm ∨ s.storm.own = .watch → t.storm.watchTimer = none) ∧
        (t.plan, t.rejoin, t.ports, t.out) = (s.plan, s.rejoin, s.ports, s.out)) ∧
  ∀ s : State, s.storm.debounce = some 0 → s.storm.fieldTaken = true →
    ¬(s.storm.fieldPolarity = .high ↔ s.fieldLine = true) →
    exec .fieldDebounceExpiry s =
      .next
        { s with
          storm :=
            { s.storm with
              debounce := none
              fieldTaken := false
              watchTimer :=
                if s.storm.own = .watch then some (s.storm.watchClearMin * 60000000) else s.storm.watchTimer } }

/-- R113, R114, R115, R116, R124, R125: an edge of FLASH or SURGE within 1 ms of the last taken one is ignored and
counted. A taken FLASH takes the own level from CALM to WATCH and from WATCH to STORM and restarts STORM's timer; a taken
SURGE takes it to STRIKE and starts the strike timer from full. Each counts a strike and raises STRIKE, and where some
path was in UP, DEGRADED or PROBATION, some path still is. W's power control follows the effective level (R73), and
LEVEL-CHANGE and IN-STORM tell of it (R121, R184). A taken SURGE issues the shelter orders in the order W, B, A (R124): an
exposed path with a shelter time enters SHELTER where another path is in service at its order, its superframe cut off with
a closing header owed (R47), its queue emptied and counted (R35), its estimate unset (R66), the order counted and SHELTER
raised; the last path in service is kept, counted, and LAST-PATH-EXPOSED raised (R125). While a sweep runs, the suspension
and the orders are taken in either order (R126, R162, R167): the swept path is sheltered out of SWEEP and the sweep ends
PATH-LOST, or the sweep is suspended and its path judged as an UP path. How many of the orders come first is a free value,
and the statement rests on none of its values (assumption log 8). -/
def Obligations.FlashAndSurgeEdges : Prop :=
  (∀ (n : Nat) (s : State), s.storm.lastFlash = some n → s.clock.ref < n + 1000 →
    exec .flashEdge s = .next { s with storm := { s.storm with flashIgnored := oneMore s.storm.flashIgnored } }) ∧
  (∀ (n : Nat) (s : State), s.storm.lastSurge = some n → s.clock.ref < n + 1000 →
    exec .surgeEdge s = .next { s with storm := { s.storm with surgeIgnored := oneMore s.storm.surgeIgnored } }) ∧
  (∀ s : State, (∀ n, s.storm.lastFlash = some n → n + 1000 ≤ s.clock.ref) →
    s.storm.effective = higher s.storm.own s.storm.peer →
    ∃ t : State,
      exec .flashEdge s = .next t ∧ t.storm.flashTaken = oneMore s.storm.flashTaken ∧
        t.storm.lastFlash = some s.clock.ref ∧ t.holdUp.strikes = oneMore s.holdUp.strikes ∧ Raised kindStrike t ∧
        t.storm.own =
          (match s.storm.own with | .calm => .watch | .watch => .storm | .storm => .storm | .strike => .strike) ∧
        t.storm.effective = higher t.storm.own t.storm.peer ∧
        (t.storm.own = .storm → t.storm.stormTimer = some (s.storm.stormClearMin * 60000000)) ∧
        ((∃ p, inService s p = true) → ∃ p, inService t p = true) ∧ RadioFollows s t ∧ LevelTold s t ∧
        (t.plan, t.rejoin, t.ports, t.out) = (s.plan, s.rejoin, s.ports, s.out)) ∧
  (∀ s : State, (∀ n, s.storm.lastSurge = some n → n + 1000 ≤ s.clock.ref) →
    s.storm.effective = higher s.storm.own s.storm.peer →
    ∃ t : State,
      exec .surgeEdge s = .next t ∧ t.storm.surgeTaken = oneMore s.storm.surgeTaken ∧
        t.storm.lastSurge = some s.clock.ref ∧ t.holdUp.strikes = oneMore s.holdUp.strikes ∧ Raised kindStrike t ∧
        t.storm.own = .strike ∧ t.storm.effective = .strike ∧
        t.storm.strikeTimer = some (s.storm.strikeMs * 1000) ∧
        (∀ p, (s.sup.get p).exposed = true → (s.sup.get p).shelterMs ≠ 0 → pstate s p = .acquire →
          pstate t p = .shelter ∧ (t.sup.get p).shelterTimer = some ((s.sup.get p).shelterMs * 1000)) ∧
        (∀ p, (s.sup.get p).exposed = false → pstate s p ≠ .sweep → pstate t p = pstate s p) ∧
        ((∃ p, inService s p = true) → ∃ p, inService t p = true) ∧ RadioFollows s t ∧ LevelTold s t ∧
        (t.plan, t.rejoin, t.ports, t.out) = (s.plan, s.rejoin, s.ports, s.out)) ∧
  ∀ s : State, (∀ n, s.storm.lastSurge = some n → n + 1000 ≤ s.clock.ref) → DerivedSound s →
    ∃ t : State,
      exec .surgeEdge s = .next t ∧
        ((∀ c, s.sweep.engine ≠ .running c) → ∀ p, ShelterOrdered s t p) ∧
        ∀ c, s.sweep.engine = .running c →
          SweepMeetsStrike s t c ∧ (∀ p, p ≠ c.path → OrderedBesideSweep s t p) ∧ ∃ p, inService t p = true

/-- R73, R116, R117, R118, R119, R121: the own level steps down as its timers expire: from STRIKE to STORM, STORM to
WATCH, WATCH to CALM, the entered level's timer starting from full (WATCH's only with FIELD not taken) and the hold-up
domain following. The peer-forget timer takes the peer's level to CALM and clears the peer parked flag. The effective
level follows, and W's power control with it: held ACTIVE or woken above CALM, its idle timer afresh at CALM. LEVEL-CHANGE
is raised at each change of the effective level and at no other moment; IN-STORM holds as the level says, joins every
event set where it begins, and no kind leaves a set (R121, R184). -/
def Obligations.LevelTimersAndPeerForget : Prop :=
  (∀ s : State, s.storm.strikeTimer = some 0 → s.storm.effective = higher s.storm.own s.storm.peer →
    ∃ t : State,
      exec .strikeTimerExpiry s = .next t ∧ t.storm.own = .storm ∧ t.storm.strikeTimer = none ∧
        t.storm.stormTimer = some (s.storm.stormClearMin * 60000000) ∧
        t.storm.effective = higher .storm s.storm.peer ∧ t.holdUp = { s.holdUp with levelClass := .storm } ∧ RadioFollows s t ∧ LevelTold s t ∧
        (t.plan, t.rejoin, t.ports, t.out) = (s.plan, s.rejoin, s.ports, s.out)) ∧
  (∀ s : State, s.storm.stormTimer = some 0 → s.storm.effective = higher s.storm.own s.storm.peer →
    ∃ t : State,
      exec .stormClearTimerExpiry s = .next t ∧ t.storm.own = .watch ∧ t.storm.stormTimer = none ∧
        t.storm.watchTimer =
          (if s.storm.fieldTaken = true then none else some (s.storm.watchClearMin * 60000000)) ∧
        t.storm.effective = higher .watch s.storm.peer ∧ t.holdUp = { s.holdUp with levelClass := .watch } ∧ RadioFollows s t ∧ LevelTold s t ∧
        (t.plan, t.rejoin, t.ports, t.out) = (s.plan, s.rejoin, s.ports, s.out)) ∧
  (∀ s : State, s.storm.watchTimer = some 0 → s.storm.effective = higher s.storm.own s.storm.peer →
    ∃ t : State,
      exec .watchClearTimerExpiry s = .next t ∧ t.storm.own = .calm ∧
        (t.storm.strikeTimer, t.storm.stormTimer, t.storm.watchTimer) = (none, none, none) ∧
        t.storm.effective = s.storm.peer ∧ t.holdUp = { s.holdUp with levelClass := .calm } ∧ RadioFollows s t ∧ LevelTold s t ∧
        (t.plan, t.rejoin, t.ports, t.out) = (s.plan, s.rejoin, s.ports, s.out)) ∧
  ∀ s : State, s.storm.forgetTimer = some 0 → s.storm.effective = higher s.storm.own s.storm.peer →
    ∃ t : State,
      exec .peerForget s = .next t ∧ t.storm.peer = .calm ∧ t.storm.forgetTimer = none ∧ t.storm.peerParked = false ∧
        t.storm.peerParking = none ∧ t.storm.peerForgets = oneMore s.storm.peerForgets ∧ t.storm.own = s.storm.own ∧
        t.storm.effective = s.storm.own ∧ condHolds t kindPeerParked = false ∧ RadioFollows s t ∧ LevelTold s t ∧
        (t.plan, t.rejoin, t.holdUp, t.ports, t.out) = (s.plan, s.rejoin, s.holdUp, s.ports, s.out)

/-! ### The margin sweep -/

/-- R158, R163, R164, R165: SWEEP starts on an UP path beside another eligible one, waits PENDING on a path that is not yet
UP, and is refused by its checks in their order; SUSPEND-SWEEP returns the path to UP and drops the step in progress;
RESUME-SWEEP starts it again under the same conditions; ABORT-SWEEP ends the sweep in hand with outcome ABORTED. -/
def Obligations.SweepCommands : Prop :=
  (∀ (src : Source) (b : Byte) (p : Path) (s : State), Passes 31 1 src s → pathOf b = some p →
    isParking s = false → stormy s.storm.effective = false → s.sweep.engine = .idle → pstate s p = .up →
    otherEligible s p = true →
    ∃ u : State,
      exec (.sweep src b) s = .next (respond src 31 (bare .accepted) (received src s) u) ∧
        u.sweep = { s.sweep with engine := .running { path := p, counts := [], taken := 0, failed := 0 } } ∧
        pstate u p = .sweep ∧ (∀ q, q ≠ p → pstate u q = pstate s q) ∧
        (u.plan, u.radio, u.rejoin, u.storm, u.holdUp, u.out) = (s.plan, s.radio, s.rejoin, s.storm, s.holdUp, s.out)) ∧
  (∀ (src : Source) (b : Byte) (p : Path) (s : State), Passes 31 1 src s → pathOf b = some p →
    isParking s = false → stormy s.storm.effective = false → s.sweep.engine = .idle →
    pstate s p = .acquire ∨ pstate s p = .probation ∨ (pstate s p = .degraded ∧ otherEligible s p = true) →
    exec (.sweep src b) s =
      .next (respond src 31 (bare .pending) (received src s)
        { received src s with
          sweep := { s.sweep with engine := .pending { path := p, counts := [], taken := 0, failed := 0 } } })) ∧
  (∀ (src : Source) (b : Byte) (st : Status) (s : State), Passes 31 1 src s →
    (pathOf b = none ∧ st = .badArgument) ∨
      (∃ p, pathOf b = some p ∧
        ((isParking s = true ∧ st = .busy) ∨
          (isParking s = false ∧ stormy s.storm.effective = true ∧ st = .inStorm) ∨
          (isParking s = false ∧ stormy s.storm.effective = false ∧
            (((∃ c, s.sweep.engine = .running c ∨ s.sweep.engine = .pending c) ∧ st = .sweepActive) ∨
              ((∃ c, s.sweep.engine = .suspended c) ∧ st = .sweepSuspended) ∨
              (s.sweep.engine = .idle ∧ (pstate s p = .off ∨ pstate s p = .shelter) ∧ st = .pathNotReady) ∨
              (s.sweep.engine = .idle ∧ (pstate s p = .up ∨ pstate s p = .degraded) ∧ otherEligible s p = false ∧
                st = .lastPath))))) →
    exec (.sweep src b) s = .next (respond src 31 (bare st) (received src s) (received src s))) ∧
  (∀ (src : Source) (c : CurrentSweep) (s : State), Passes 32 1 src s → s.sweep.engine = .running c →
    pstate s c.path = .sweep →
    ∃ u : State,
      exec (.suspendSweep src) s = .next (respond src 32 (bare .done) (received src s) u) ∧
        u.sweep = { s.sweep with engine := .suspended { c with taken := 0, failed := 0 } } ∧ pstate u c.path = .up ∧
        Raised kindSweepSuspended u ∧
        (u.plan, u.framer, u.radio, u.rejoin, u.storm, u.holdUp, u.out) =
          (s.plan, s.framer, s.radio, s.rejoin, s.storm, s.holdUp, s.out)) ∧
  (∀ (src : Source) (s : State), Passes 32 1 src s → (∀ c, s.sweep.engine ≠ .running c) →
    exec (.suspendSweep src) s =
      .next (respond src 32
        (bare (match s.sweep.engine with | .pending _ => .pending | _ => .done)) (received src s) (received src s))) ∧
  (∀ (src : Source) (c : CurrentSweep) (s : State), Passes 33 1 src s → s.sweep.engine = .suspended c →
    stormy s.storm.effective = false → pstate s c.path = .up → otherEligible s c.path = true →
    ∃ u : State,
      exec (.resumeSweep src) s = .next (respond src 33 (bare .accepted) (received src s) u) ∧
        u.sweep = { s.sweep with engine := .running c } ∧ pstate u c.path = .sweep ∧
        (∀ q, q ≠ c.path → pstate u q = pstate s q)) ∧
  (∀ (src : Source) (c : CurrentSweep) (st : Status) (s : State), Passes 33 1 src s → s.sweep.engine = .suspended c →
    (stormy s.storm.effective = true ∧ st = .inStorm) ∨
      (stormy s.storm.effective = false ∧
        ((pstate s c.path ≠ .up ∧ st = .pathNotReady) ∨
          (pstate s c.path = .up ∧ otherEligible s c.path = false ∧ st = .lastPath))) →
    exec (.resumeSweep src) s = .next (respond src 33 (bare st) (received src s) (received src s))) ∧
  (∀ (src : Source) (s : State), Passes 33 1 src s → (∀ c, s.sweep.engine ≠ .suspended c) →
    exec (.resumeSweep src) s = .next (respond src 33 (bare .notSuspended) (received src s) (received src s))) ∧
  (∀ (src : Source) (c : CurrentSweep) (s : State), Passes 34 1 src s →
    s.sweep.engine = .running c ∨ s.sweep.engine = .pending c ∨ s.sweep.engine = .suspended c →
    ∃ u : State,
      exec (.abortSweep src) s = .next (respond src 34 (bare .done) (received src s) u) ∧
        u.sweep =
          { engine := .idle
            last := some
              { path := c.path, outcome := .aborted, byPark := false, counts := c.counts,
                margin := (c.counts.takeWhile fun n => decide (n = 0)).length } } ∧
        (s.sweep.engine = .running c → pstate u c.path = .up) ∧ Raised kindSweepEnd u ∧
        (u.plan, u.framer, u.radio, u.rejoin, u.storm, u.holdUp, u.out) =
          (s.plan, s.framer, s.radio, s.rejoin, s.storm, s.holdUp, s.out)) ∧
  ∀ (src : Source) (s : State), Passes 34 1 src s → s.sweep.engine = .idle →
    exec (.abortSweep src) s = .next (respond src 34 (bare .done) (received src s) (received src s))

/-- R159, R160, R161: a pending sweep starts when its path is UP beside another eligible path outside a storm. The 64th
counted report of a step stores its failed blocks and begins the next step; at step 31 it ends the sweep COMPLETE with the
margin, the clean steps before the first failing one, and the path returns to UP. -/
def Obligations.SweepStartsStepsAndCompletes : Prop :=
  (∀ (c : CurrentSweep) (s : State), s.sweep.engine = .pending c → pstate s c.path = .up →
    otherEligible s c.path = true → stormy s.storm.effective = false →
    ∃ t : State,
      exec .sweepPendingStart s = .next t ∧ t.sweep = { s.sweep with engine := .running c } ∧
        pstate t c.path = .sweep ∧ (∀ q, q ≠ c.path → pstate t q = pstate s q) ∧
        (t.plan, t.radio, t.rejoin, t.storm, t.holdUp, t.ports, t.out) =
          (s.plan, s.radio, s.rejoin, s.storm, s.holdUp, s.ports, s.out)) ∧
  (∀ (p : Path) (c : CurrentSweep) (r : RxSuperframe) (b : BlockArrival) (n : Nat) (s : State),
    s.sweep.engine = .running c → c.path = p → pstate s p = .sweep → c.taken = 63 → c.counts.length + 1 < 32 →
    (s.framer.get p).rx = some r → r.result ≠ .missing → r.partSweep = false → blocksOf p r.length ≤ r.judged + 1 →
    n = (if blockFails r b = true then r.failed + 1 else r.failed) →
    ∃ t : State,
      exec (.blockJudged p b) s = .next t ∧ exec (.sweepStepComplete p (.block b)) s = .next t ∧
        t = { s with sweep := t.sweep, framer := s.framer.upd p fun f => { f with rx := none } } ∧
        t.sweep =
          { s.sweep with
            engine := .running { path := p, counts := c.counts ++ [c.failed + n], taken := 0, failed := 0 } }) ∧
  ∀ (p : Path) (c : CurrentSweep) (r : RxSuperframe) (b : BlockArrival) (n : Nat) (s : State),
    s.sweep.engine = .running c → c.path = p → pstate s p = .sweep → c.taken = 63 → c.counts.length = 31 →
    (s.framer.get p).rx = some r → r.result ≠ .missing → r.partSweep = false → blocksOf p r.length ≤ r.judged + 1 →
    n = (if blockFails r b = true then r.failed + 1 else r.failed) →
    ∃ t : State,
      exec (.blockJudged p b) s = .next t ∧ exec (.sweepStepComplete p (.block b)) s = .next t ∧ pstate t p = .up ∧
        t.sweep =
          { engine := .idle
            last := some
              { path := p, outcome := .complete, byPark := false, counts := c.counts ++ [c.failed + n],
                margin := ((c.counts ++ [c.failed + n]).takeWhile fun k => decide (k = 0)).length } } ∧
        Raised kindSweepEnd t ∧
        (t.plan, t.radio, t.rejoin, t.storm, t.holdUp, t.ports, t.out) =
          (s.plan, s.radio, s.rejoin, s.storm, s.holdUp, s.ports, s.out)

/-! ### Traffic -/

/-- R23, R24, R25, R27 to R31, R34: an ingress cell of a parked terminal, of stream 0, or of a stream that is absent or
not outbound here is refused and counted; one above the budget is over-budget; one with no eligible path counts no-path
and wakes a W in STANDBY, and no other W; any other takes the stream's next sequence, counts against the budget, and its
copies join the queues of the copy set; a copy for a full queue is dropped and counted with QUEUE-FULL, one placed on W
restarts its idle timer or takes it from IDLE to ACTIVE, fewer copies than the applied mode wants count as diversity
reduced. ESCALATE applies SINGLE at CALM, DUAL at WATCH, DUAL-STAGGER above. The eligibility order holds the UP paths in
the order A, B, W, then the DEGRADED ones. Each mode gives the paths and due times R28 names, with an eligible preferred
path for copy 0 and with one that is not eligible. At the first instant of a superframe a switch that is due comes ahead
of the cell (R148), and the budget counts are 0. That a copy placed on W acts on its timers at the moment of its placement
is the model's choice (assumption log 50). -/
def Obligations.IngressCellsArePolicedAndCopied : Prop :=
  (∀ (i : StreamIx) (pl : List Byte) (p : Pending) (s : State), boundary s = true → s.switch.engine = .armed p →
    p.n = superframeOf s.clock.link →
    ∃ t : State,
      exec .planSwitch s = .next t ∧ NothingAhead t ∧ exec (.ingressCell i pl) s = exec (.ingressCell i pl) t) ∧
  (∀ (i : StreamIx) (pl : List Byte) (s : State), s.clock.link % 1000 = 0 → s.clock.rolled = false →
    s.clock.started = true ∨ switchDue s = none →
    NothingAhead (budgetsCleared s) ∧ exec (.ingressCell i pl) s = exec (.ingressCell i pl) (budgetsCleared s)) ∧
  (∀ (i : StreamIx) (pl : List Byte) (s : State), NothingAhead s →
    isParked s = true ∨ i = 0 ∨ (sget s.plan.active i).present = false ∨
      runsOut s.role (sget s.plan.active i).direction = false →
    exec (.ingressCell i pl) s =
      .next { s with
        disp := { s.disp with ingressRefused := sset s.disp.ingressRefused i (oneMore (sget s.disp.ingressRefused i)) } }) ∧
  (∀ (i : StreamIx) (pl : List Byte) (s : State), NothingAhead s →
    isParked s = false → i ≠ 0 → (sget s.plan.active i).present = true →
    runsOut s.role (sget s.plan.active i).direction = true →
    budgetOf (sget s.plan.active i) ≤ sget s.disp.budget i →
    exec (.ingressCell i pl) s =
      .next { s with
        disp := { s.disp with overBudget := sset s.disp.overBudget i (oneMore (sget s.disp.overBudget i)) } }) ∧
  (∀ (i : StreamIx) (pl : List Byte) (s : State), NothingAhead s →
    isParked s = false → i ≠ 0 → (sget s.plan.active i).present = true →
    runsOut s.role (sget s.plan.active i).direction = true →
    sget s.disp.budget i < budgetOf (sget s.plan.active i) → (∀ p, eligible s p = false) → s.radio.mode = .standby →
    exec (.ingressCell i pl) s =
      .next (raise kindRadioPower
        { s with
          radio := { s.radio with mode := .warmup, warmTimer := some 250000 }
          disp := { s.disp with noPath := sset s.disp.noPath i (oneMore (sget s.disp.noPath i)) } })) ∧
  (∀ (i : StreamIx) (pl : List Byte) (s : State), NothingAhead s →
    isParked s = false → i ≠ 0 → (sget s.plan.active i).present = true →
    runsOut s.role (sget s.plan.active i).direction = true →
    sget s.disp.budget i < budgetOf (sget s.plan.active i) → (∀ p, eligible s p = false) → s.radio.mode ≠ .standby →
    exec (.ingressCell i pl) s =
      .next { s with disp := { s.disp with noPath := sset s.disp.noPath i (oneMore (sget s.disp.noPath i)) } }) ∧
  (∀ (i : StreamIx) (pl : List Byte) (set : List (Path × Nat)) (s : State), NothingAhead s →
    isParked s = false → i ≠ 0 → (sget s.plan.active i).present = true →
    runsOut s.role (sget s.plan.active i).direction = true →
    sget s.disp.budget i < budgetOf (sget s.plan.active i) → (∃ p, eligible s p = true) →
    set = copySet (appliedMode s (sget s.plan.active i)) (sget s.plan.active i) s.clock.link (eligibilityOrder s) →
    ∃ t : State,
      exec (.ingressCell i pl) s = .next t ∧
        t.disp.nextSeq = sset s.disp.nextSeq i (sget s.disp.nextSeq i + 1) ∧
        t.disp.budget = sset s.disp.budget i (sget s.disp.budget i + 1) ∧
        (∀ q, (s.disp.queue.get q).length < 512 →
          t.disp.queue.get q = s.disp.queue.get q ++
            ((set.zipIdx.filter fun x => decide (x.1.1 = q)).map fun x =>
              { cell :=
                  { fill := false, copyIndex := BitVec.ofNat 2 x.2, stream := i, seq := sget s.disp.nextSeq i,
                    origin := s.clock.link, payload := pl }
                due := x.1.2
                priority := (sget s.plan.active i).priority
                hold := (sget s.plan.active i).hold * 125 }) ∧
            t.disp.queueFull.get q = s.disp.queueFull.get q) ∧
        (∀ q, 512 ≤ (s.disp.queue.get q).length →
          t.disp.queue.get q = s.disp.queue.get q ∧
            ((∃ x ∈ set, x.1 = q) →
              t.disp.queueFull.get q = oneMore (s.disp.queueFull.get q) ∧ Raised kindQueueFull t) ∧
            ((∀ x ∈ set, x.1 ≠ q) → t.disp.queueFull.get q = s.disp.queueFull.get q)) ∧
        t.disp.diversityReduced =
          (if set.length < (match appliedMode s (sget s.plan.active i) with | .single => 1 | .triple => 3 | _ => 2) then
            sset s.disp.diversityReduced i (oneMore (sget s.disp.diversityReduced i))
          else s.disp.diversityReduced) ∧
        ((∃ x ∈ set, x.1 = .w) → (s.disp.queue.get .w).length < 512 →
          t.radio =
              (match s.radio.mode with
                | .active => { s.radio with idleTimer :=
                    if s.storm.effective = .calm ∧ s.radio.idleSet ≠ 0 then some (s.radio.idleSet * 100000) else none }
                | .idle => { s.radio with
                    mode := .active
                    standbyTimer := none
                    idleTimer :=
                      if s.storm.effective = .calm ∧ s.radio.idleSet ≠ 0 then some (s.radio.idleSet * 100000) else none }
                | _ => s.radio) ∧
            (s.radio.mode = .idle → Raised kindRadioPower t)) ∧
        ((∀ x ∈ set, x.1 ≠ .w) ∨ 512 ≤ (s.disp.queue.get .w).length → t.radio = s.radio) ∧
        (t.clock, t.plan, t.framer, t.sup, t.rejoin, t.storm, t.switch, t.ports, t.out) =
          (s.clock, s.plan, s.framer, s.sup, s.rejoin, s.storm, s.switch, s.ports, s.out)) ∧
  (∀ (d : Descriptor) (s : State),
    appliedMode s d =
      if d.mode = .escalate then
        (match s.storm.effective with | .calm => .single | .watch => .dual | _ => .dualStagger)
      else d.mode) ∧
  (∀ s : State,
    eligibilityOrder s =
      (([.a, .b, .w] : List Path).filter fun p => decide (pstate s p = .up)) ++
        ([.a, .b, .w] : List Path).filter fun p => decide (pstate s p = .degraded)) ∧
  ∀ (d : Descriptor) (origin : Nat) (p q : Path) (rest : List Path), p ∉ rest → q ∉ rest → p ≠ q →
    (d.preferred = none ∨ d.preferred = some p ∨ (∃ r, d.preferred = some r ∧ r ∉ p :: q :: rest) →
      copySet .single d origin (p :: q :: rest) = [(p, origin)] ∧
        copySet .dual d origin (p :: q :: rest) = [(p, origin), (q, origin)] ∧
        copySet .dualStagger d origin (p :: q :: rest) =
          [(p, origin), (q, (origin + d.stagger * 125) % 65536000)]) ∧
    (∀ r, d.preferred = some r → r ∈ q :: rest →
      copySet .single d origin (p :: q :: rest) = [(r, origin)] ∧
        copySet .dual d origin (p :: q :: rest) = [(r, origin), (p, origin)] ∧
        copySet .dualStagger d origin (p :: q :: rest) =
          [(r, origin), (p, (origin + d.stagger * 125) % 65536000)]) ∧
    copySet .single d origin [p] = [(p, origin)] ∧ copySet .dual d origin [p] = [(p, origin)] ∧
    copySet .dualStagger d origin [p] = [(p, origin)] ∧
    (copySet .triple d origin [p]).map Prod.fst = [p] ∧
    (∀ x ∈ copySet .triple d origin (p :: q :: rest), x.2 = origin) ∧
    (copySet .triple d origin (p :: q :: rest)).map Prod.fst =
      [Path.a, .b, .w].filter fun x => decide (x = p) || decide (x = q) || decide (x ∈ rest)

/-- R28, R33, R34, R36, R37, R38, R43, R50, R129, R148, R181: the outbox's head becomes a cell of stream 0 with a copy on
every eligible path, numbered 0, 1, 2 in the order A, B, W, while stream 0 has budget left; a copy for a full queue is
dropped and counted with QUEUE-FULL; what waits for the message learns its sequence. With no eligible path the message
stays and a W in STANDBY is woken, unless the terminal is PARKED; with the budget spent nothing changes. A slot takes the
due copy of the highest priority, then the earliest due time, then the lowest stream index, then the first accepted; one
whose age has reached its hold is counted and the slot selects again; with no due copy it sends a fill cell. The last slot
of a block leaves its check bytes owed until the slot has ended (R43). At the first instant of a superframe a switch that
is due comes ahead of the move, and the budget counts are 0. That the wake request goes out whenever a message waits with
no eligible path and W in STANDBY (assumption log 37), and that a fill cell has an empty payload (assumption log 10), is
the model's choice. -/
def Obligations.OutboxMovesAndSlotsServe : Prop :=
  (∀ (p : Pending) (s : State), boundary s = true → s.switch.engine = .armed p → p.n = superframeOf s.clock.link →
    ∃ t : State, exec .planSwitch s = .next t ∧ NothingAhead t ∧ exec .outboxMove s = exec .outboxMove t) ∧
  (∀ s : State, s.clock.link % 1000 = 0 → s.clock.rolled = false → s.clock.started = true ∨ switchDue s = none →
    NothingAhead (budgetsCleared s) ∧ exec .outboxMove s = exec .outboxMove (budgetsCleared s)) ∧
  (∀ (m : OutMsg) (rest : List OutMsg) (s : State), NothingAhead s →
    s.disp.outbox = m :: rest → (∃ p, eligible s p = true) →
    sget s.disp.budget 0 < budgetOf (sget s.plan.active 0) →
    ∃ t : State,
      exec .outboxMove s = .next t ∧
        ((∀ q, eligible s q = true → (s.disp.queue.get q).length < 512) → t.disp.outbox = rest ∧ t.ev = s.ev) ∧
        t.disp.nextSeq = sset s.disp.nextSeq 0 (sget s.disp.nextSeq 0 + 1) ∧
        t.disp.budget = sset s.disp.budget 0 (sget s.disp.budget 0 + 1) ∧
        (∀ q, eligible s q = false → t.disp.queue.get q = s.disp.queue.get q) ∧
        (∀ q, eligible s q = true → (s.disp.queue.get q).length < 512 →
          t.disp.queueFull.get q = s.disp.queueFull.get q ∧ t.disp.queue.get q = s.disp.queue.get q ++
          [{ cell :=
               { fill := false
                 copyIndex := BitVec.ofNat 2 ((([.a, .b, .w] : List Path).filter (eligible s)).idxOf q)
                 stream := 0, seq := sget s.disp.nextSeq 0, origin := s.clock.link, payload := messagePayload m.msg }
             due := s.clock.link
             priority := (sget s.plan.active 0).priority
             hold := (sget s.plan.active 0).hold * 125 }]) ∧
        (∀ q, eligible s q = true → 512 ≤ (s.disp.queue.get q).length →
          t.disp.queue.get q = s.disp.queue.get q ∧ t.disp.queueFull.get q = oneMore (s.disp.queueFull.get q) ∧
            Raised kindQueueFull t) ∧
        t.storm =
          (match m.awaited, s.storm.parking with
            | .park, .parking w =>
              { s.storm with parking := .parking { w with moved := some (sget s.disp.nextSeq 0) } }
            | _, _ => s.storm) ∧
        t.ports =
          (if m.awaited = .reset then
            { s.ports with
              resetPending := s.ports.resetPending.map fun w => { w with moved := some (sget s.disp.nextSeq 0) } }
          else s.ports) ∧
        (t.clock, t.plan, t.radio, t.sup, t.rejoin, t.out) =
          (s.clock, s.plan, s.radio, s.sup, s.rejoin, s.out)) ∧
  (∀ (m : OutMsg) (rest : List OutMsg) (s : State), NothingAhead s → s.disp.outbox = m :: rest →
    ((∀ p, eligible s p = false) →
      exec .outboxMove s =
        .next (if s.radio.mode = .standby ∧ isParked s = false then
          raise kindRadioPower { s with radio := { s.radio with mode := .warmup, warmTimer := some 250000 } }
        else s)) ∧
      ((∃ p, eligible s p = true) → budgetOf (sget s.plan.active 0) ≤ sget s.disp.budget 0 →
        exec .outboxMove s = .next s)) ∧
  (∀ (p : Path) (s : State), slotDue s p = true →
    (∀ c ∈ s.disp.queue.get p, isDue s.clock.link c = false) → s.disp.expired.get p ≤ 65535 →
    ∃ t : State,
      exec (.slotStart p) s = .next t ∧ t.disp = s.disp ∧
        t = { s with framer := t.framer, out := t.out } ∧ SlotSent s t p
          { fill := true, copyIndex := 0, stream := 0, seq := 0, origin := 0, payload := [] }) ∧
  (∀ (p : Path) (c : Copy) (s : State), slotDue s p = true → selectCopy s.clock.link (s.disp.queue.get p) = some c →
    hasExpired s.clock.link c = false →
    ∃ t : State,
      exec (.slotStart p) s = .next t ∧
        t.disp = { s.disp with queue := s.disp.queue.set p ((s.disp.queue.get p).erase c), expired := t.disp.expired } ∧
        (t.disp.expired.get p = min 65535 (s.disp.expired.get p)) ∧
        t = { s with disp := t.disp, framer := t.framer, out := t.out } ∧ SlotSent s t p c.cell) ∧
  (∀ (p : Path) (c : Copy) (s : State), slotDue s p = true → selectCopy s.clock.link (s.disp.queue.get p) = some c →
    hasExpired s.clock.link c = true →
    exec (.slotStart p) s =
      exec (.slotStart p)
        { s with
          disp :=
            { s.disp with
              queue := s.disp.queue.set p ((s.disp.queue.get p).erase c)
              expired := s.disp.expired.set p (oneMore (s.disp.expired.get p)) } }) ∧
  (∀ (start : Nat) (q : List Copy), (∃ c, selectCopy start q = some c) ↔ ∃ c ∈ q, isDue start c = true) ∧
  (∀ (start : Nat) (q : List Copy) (c : Copy), selectCopy start q = some c →
    isDue start c = true ∧
      ∃ before after : List Copy, q = before ++ c :: after ∧
        (∀ x ∈ before, isDue start x = true → goesAhead start c x = true) ∧
        ∀ x ∈ after, isDue start x = true → goesAhead start x c = false) ∧
  (∀ (start : Nat) (c : Copy), start < 65536000 → c.due < 65536000 → c.cell.origin < 65536000 →
    (isDue start c = true ↔ (start + 65536000 - c.due) % 65536000 < 32768000) ∧
      (hasExpired start c = true ↔ c.hold ≤ (start + 65536000 - c.cell.origin) % 65536000)) ∧
  ∀ (start : Nat) (x y : Copy), start < 65536000 → x.due < 65536000 → y.due < 65536000 →
    isDue start x = true → isDue start y = true →
    (goesAhead start x y = true ↔
      y.priority < x.priority ∨
        x.priority = y.priority ∧
          ((x.due ≠ y.due ∧ (y.due + 65536000 - x.due) % 65536000 < 32768000) ∨
            x.due = y.due ∧ x.cell.stream < y.cell.stream))

/-- R24, R37, R43, R45, R46, R47, R54, R127, R142, R181: the start of a superframe, done once, sets every budget count to
0, unless a switch or a cell of that instant has done so (R24, R148), drops the queued copies whose age has reached their
hold and counts each in its path's expired counter, takes one from the wait of a park and of a pending reset, and lets a
cancel run place its CANCEL, up to its last superframe. A path that sends slots sends the header of the new superframe,
with its number, send time, role, level, epoch, echo and the block length that the effective level chooses; a path that
entered SHELTER sends its closing header, path A of a PARKED terminal with its enable on the beacon, every other path
nothing. How a wait counts its starts (assumption log 29), and that a run whose last superframe lies behind ends
(assumption log 22), is read from the spec by inference. That a path which left SHELTER for ACQUIRE before the start sends
the header of a full superframe and no closing header (assumption log 45), and that the row changes nothing where no start
is due (assumption log 13), is the model's choice. -/
def Obligations.SuperframeStartSendsHeaders : Prop :=
  (∀ s : State, boundary s = true → NothingElseAtStart s →
    ∃ t : State,
      exec .superframeStart s = .next t ∧ t.clock = { s.clock with rolled := true, started := true } ∧
        t.disp.budget = (if s.clock.rolled = true then s.disp.budget else sall 0) ∧
        (∀ p, (t.disp.queue.get p = (s.disp.queue.get p).filter fun c => !hasExpired s.clock.link c) ∧
          t.disp.expired.get p =
            min 65535 (s.disp.expired.get p + ((s.disp.queue.get p).filter (hasExpired s.clock.link)).length)) ∧
        (∀ p (parked muting : Bool),
          (sendsSlots (pstate s p) = true ∧ parked = false ∧ muting = false) ∨
            (pstate s p = .shelter ∧ (s.framer.get p).tx.closing = true ∧ parked = false ∧ muting = true) ∨
            (pstate s p = .off ∧ isParked s = true ∧ p = .a ∧ (s.sup.get p).enable = true ∧ parked = true ∧
              muting = false) →
          (t.framer.get p).tx =
              { sending := sendsSlots (pstate s p), nextSlot := 0, closing := false, owed := none } ∧
            (t.framer.get p).inUse =
              (if stormy s.storm.effective = true then (s.framer.get p).stormLen else (s.framer.get p).calmLen) ∧
            ∃ h : Header,
              t.out.lines.get p = s.out.lines.get p ++ [.header h (Config.headerCheck (headerBytes h))] ∧
                h.number = superframeOf s.clock.link ∧ h.sendTime = BitVec.ofNat 26 s.clock.link ∧ h.role = s.role ∧
                h.parked = parked ∧ h.mutingNext = muting ∧ h.level = s.storm.own ∧ h.epoch = s.plan.epoch ∧
                h.lengthCode = codeOfLength (t.framer.get p).inUse ∧
                (∀ e, (s.framer.get p).echo = some e → s.clock.ref - e.arrivalRef < 65535 →
                  (h.echoValid, h.echoOf, h.turnaround) =
                    (true, BitVec.ofNat 26 e.sendTime, BitVec.ofNat 16 (s.clock.ref - e.arrivalRef))) ∧
                ((∀ e, (s.framer.get p).echo = some e → 65535 ≤ s.clock.ref - e.arrivalRef) →
                  (h.echoValid, h.echoOf, h.turnaround) = (false, 0, 65535))) ∧
        (∀ p, (pstate s p = .off ∧ (isParked s = false ∨ p ≠ .a ∨ (s.sup.get p).enable = false)) ∨
            (pstate s p = .shelter ∧ (s.framer.get p).tx.closing = false ∧
              (isParked s = false ∨ p ≠ .a ∨ (s.sup.get p).enable = false)) →
          t.out.lines.get p = s.out.lines.get p) ∧
        t.storm =
          { s.storm with
            parking := match s.storm.parking with
              | .parking w => .parking { w with left := w.left - 1 }
              | x => x } ∧
        t.ports = { s.ports with resetPending := s.ports.resetPending.map fun w => { w with left := w.left - 1 } } ∧
        (s.switch.run = none ∨ (∃ r, s.switch.run = some r ∧ r.placedIn = superframeOf s.clock.link) →
          t.switch = s.switch ∧ t.disp.outbox = s.disp.outbox) ∧
        (∀ r, s.switch.run = some r → r.placedIn ≠ superframeOf s.clock.link →
          (32768 ≤ (r.last - superframeOf s.clock.link).toNat →
            t.switch = { s.switch with run := none } ∧ t.disp.outbox = s.disp.outbox) ∧
            ((r.last - superframeOf s.clock.link).toNat < 32768 →
              t.switch =
                  { s.switch with
                    cancels := oneMore s.switch.cancels
                    run :=
                      if superframeOf s.clock.link = r.last then none
                      else some { r with placedIn := superframeOf s.clock.link } } ∧
                (s.disp.outbox.length < 32 →
                  t.disp.outbox =
                    s.disp.outbox ++ [{ msg := .cancel s.role (r.epoch.setWidth 8), awaited := .no }]))) ∧
        (s.disp.outbox.length < 32 → t.ev = s.ev) ∧
        (t.plan, t.sup, t.radio, t.rejoin, t.holdUp, t.sweep) =
          (s.plan, s.sup, s.radio, s.rejoin, s.holdUp, s.sweep)) ∧
  ∀ s : State, boundary s = false → exec .superframeStart s = .next s

/-- R87 to R94, R100. A copy at a MAST in FREE is unaligned, one without a window unplanned. For an unanchored window a
LATE or EARLY copy is counted and discarded, and any other anchors it. For an anchored one a copy in its span sets the
stray run to 0: LATE and EARLY ones are discarded, a timely one of an EMPTY slot is HELD, a CLEAN copy replaces a
CORRECTED cell and keeps its origin time, any other copy of a HELD slot is a duplicate, each of them counted for its path
and an UPGRADE or a duplicate for its stream too, with nothing else changed; a copy of a cell that the release event of
this moment releases skips the time tests. Behind NR a copy at or before the origin mark is STALE; the others outside the
span are STRAYS, the eighth of which flushes the window, counts and raises RESYNC, and is taken anew: it anchors the
window, or is LATE or EARLY. The next release event is the release time of the lowest-sequence held cell (R96). That an
origin exactly half of M from the origin mark counts as after it (assumption log 46), and that the flush of a resync whose
eighth STRAY is LATE or EARLY leaves NR and the origin mark as they are (assumption log 39), is the model's choice. -/
def Obligations.RejoinTakesCopiesAndResyncs : Prop :=
  (∀ (c : Taken) (w : Window) (s : State), eligible s c.path = true → c.copy.cell.fill = false →
    s.role = .truck ∨ s.time.state ≠ .free → windowOf s c.copy.cell.stream = some w → w.anchored = true →
    isStray w c = true → w.strayRun = 7 → 0 < w.span → isLate s c = false → isEarly s c = false →
    ∃ t : State,
      exec (.resync c.path c.quality c.copy) s = .next t ∧ Raised kindResync t ∧
        t = raise kindResync { s with rejoin := t.rejoin, out := { s.out with egress := t.out.egress } } ∧
        (∀ j, j ≠ c.copy.cell.stream →
          windowOf t j = windowOf s j ∧ sget t.rejoin.counts j = sget s.rejoin.counts j) ∧
        t.rejoin.arrivals = s.rejoin.arrivals.upd c.path (fun x => { x with first := oneMore x.first }) ∧
        t.rejoin.unknownMessages = s.rejoin.unknownMessages ∧
        windowOf t c.copy.cell.stream = some
          { w with
            anchored := true, nr := c.copy.cell.seq, originMark := c.copy.cell.origin, strayRun := 0
            next := some
              ((c.copy.cell.origin + (sget s.plan.active c.copy.cell.stream).hold * 125) % 65536000) } ∧
        t.rejoin.store =
          (s.rejoin.store.clear w.offset w.span).write (w.offset + c.copy.cell.seq.toNat % w.span)
            { cell := c.copy.cell, path := c.path, quality := c.quality, arrival := c.copy.arrival } ∧
        sget t.rejoin.counts c.copy.cell.stream =
          { sget s.rejoin.counts c.copy.cell.stream with
            strays := oneMore (sget s.rejoin.counts c.copy.cell.stream).strays
            resyncs := oneMore (sget s.rejoin.counts c.copy.cell.stream).resyncs
            flushed := min 65535 ((sget s.rejoin.counts c.copy.cell.stream).flushed + (heldIn s w).length) } ∧
        t.out.egress = s.out.egress ++
          (if c.copy.cell.stream = 0 then [] else [.restart c.copy.cell.stream .resync]) ∧
        (t.plan, t.clock, t.framer, t.sup, t.storm, t.ports) = (s.plan, s.clock, s.framer, s.sup, s.storm, s.ports)) ∧
  (∀ (c : Taken) (w : Window) (s : State), eligible s c.path = true → c.copy.cell.fill = false →
    s.role = .truck ∨ s.time.state ≠ .free → windowOf s c.copy.cell.stream = some w → w.anchored = true →
    isStray w c = true → w.strayRun = 7 → isLate s c = true ∨ isEarly s c = true →
    ∃ t : State,
      exec (.resync c.path c.quality c.copy) s = .next t ∧ Raised kindResync t ∧
        t = raise kindResync { s with rejoin := t.rejoin, out := { s.out with egress := t.out.egress } } ∧
        (∀ j, j ≠ c.copy.cell.stream →
          windowOf t j = windowOf s j ∧ sget t.rejoin.counts j = sget s.rejoin.counts j) ∧
        t.rejoin.unknownMessages = s.rejoin.unknownMessages ∧
        windowOf t c.copy.cell.stream = some { w with anchored := false, strayRun := 0, next := none } ∧
        t.rejoin.store = s.rejoin.store.clear w.offset w.span ∧
        sget t.rejoin.counts c.copy.cell.stream =
          { sget s.rejoin.counts c.copy.cell.stream with
            strays := oneMore (sget s.rejoin.counts c.copy.cell.stream).strays
            resyncs := oneMore (sget s.rejoin.counts c.copy.cell.stream).resyncs
            flushed := min 65535 ((sget s.rejoin.counts c.copy.cell.stream).flushed + (heldIn s w).length)
            late :=
              if isLate s c = true then oneMore (sget s.rejoin.counts c.copy.cell.stream).late
              else (sget s.rejoin.counts c.copy.cell.stream).late
            early :=
              if isLate s c = true then (sget s.rejoin.counts c.copy.cell.stream).early
              else oneMore (sget s.rejoin.counts c.copy.cell.stream).early } ∧
        t.rejoin.arrivals =
          (if isLate s c = true then s.rejoin.arrivals.upd c.path (fun x => { x with late := oneMore x.late })
           else s.rejoin.arrivals) ∧
        t.out.egress = s.out.egress ++
          (if c.copy.cell.stream = 0 then [] else [.restart c.copy.cell.stream .resync]) ∧
        (t.plan, t.clock, t.framer, t.sup, t.storm, t.ports) = (s.plan, s.clock, s.framer, s.sup, s.storm, s.ports)) ∧
  (∀ (c : Taken) (w : Window) (s : State), s.role = .truck ∨ s.time.state ≠ .free →
    windowOf s c.copy.cell.stream = some w → w.anchored = true → inSpan w c = true →
    (isLate s c = false ∧ isEarly s c = false) ∨ BeingReleased s w c →
    (s.rejoin.store.read (w.offset + c.copy.cell.seq.toNat % w.span) ≠ none →
      windowOf (takeCopy c s) c.copy.cell.stream = some { w with strayRun := 0 }) ∧
    (s.rejoin.store.read (w.offset + c.copy.cell.seq.toNat % w.span) = none →
      takeCopy c s =
        { s with
          rejoin :=
            { s.rejoin with
              windows := sset s.rejoin.windows c.copy.cell.stream
                (some { w with strayRun := 0, next := releaseAfter (takeCopy c s) c.copy.cell.stream w })
              store := s.rejoin.store.write (w.offset + c.copy.cell.seq.toNat % w.span)
                { cell := c.copy.cell, path := c.path, quality := c.quality, arrival := c.copy.arrival }
              arrivals := s.rejoin.arrivals.upd c.path fun x => { x with first := oneMore x.first } } }) ∧
    (∀ h, s.rejoin.store.read (w.offset + c.copy.cell.seq.toNat % w.span) = some h → h.quality = .corrected →
      c.quality = .clean →
      (takeCopy c s).rejoin.store.read (w.offset + c.copy.cell.seq.toNat % w.span) =
          some
            { cell := { h.cell with copyIndex := c.copy.cell.copyIndex, payload := c.copy.cell.payload }
              path := c.path, quality := .clean, arrival := c.copy.arrival } ∧
        (∀ x, x ≠ w.offset + c.copy.cell.seq.toNat % w.span →
          (takeCopy c s).rejoin.store.read x = s.rejoin.store.read x) ∧
        takeCopy c s =
          { s with
            rejoin :=
              { s.rejoin with
                windows := sset s.rejoin.windows c.copy.cell.stream (some { w with strayRun := 0 })
                store := (takeCopy c s).rejoin.store
                counts := supd s.rejoin.counts c.copy.cell.stream fun x => { x with upgrades := oneMore x.upgrades }
                arrivals := s.rejoin.arrivals.upd c.path fun x => { x with upgrades := oneMore x.upgrades } } }) ∧
    (∀ h, s.rejoin.store.read (w.offset + c.copy.cell.seq.toNat % w.span) = some h →
      h.quality = .clean ∨ c.quality = .corrected →
      takeCopy c s =
        { s with
          rejoin :=
            { s.rejoin with
              windows := sset s.rejoin.windows c.copy.cell.stream (some { w with strayRun := 0 })
              counts := supd s.rejoin.counts c.copy.cell.stream fun x => { x with duplicates := oneMore x.duplicates }
              arrivals := s.rejoin.arrivals.upd c.path fun x => { x with duplicates := oneMore x.duplicates } } })) ∧
  (∀ (c : Taken) (s : State), s.role = .mast → s.time.state = .free →
    takeCopy c s =
      { s with
        rejoin :=
          { s.rejoin with arrivals := s.rejoin.arrivals.upd c.path fun x => { x with unaligned := oneMore x.unaligned } } }) ∧
  (∀ (c : Taken) (s : State), s.role = .truck ∨ s.time.state ≠ .free → windowOf s c.copy.cell.stream = none →
    takeCopy c s =
      { s with
        rejoin :=
          { s.rejoin with arrivals := s.rejoin.arrivals.upd c.path fun x => { x with unplanned := oneMore x.unplanned } } }) ∧
  (∀ (c : Taken) (w : Window) (s : State), s.role = .truck ∨ s.time.state ≠ .free →
    windowOf s c.copy.cell.stream = some w → w.anchored = false →
    (isLate s c = true → takeCopy c s = countedLate c s) ∧
      (isLate s c = false → isEarly s c = true → takeCopy c s = countedEarly c s) ∧
      (isLate s c = false → isEarly s c = false →
        takeCopy c s =
          { s with
            rejoin :=
              { s.rejoin with
                windows := sset s.rejoin.windows c.copy.cell.stream
                  (some
                    { w with
                      anchored := true, nr := c.copy.cell.seq, originMark := c.copy.cell.origin, strayRun := 0
                      next := releaseAfter (takeCopy c s) c.copy.cell.stream { w with nr := c.copy.cell.seq } })
                store := s.rejoin.store.write (w.offset + c.copy.cell.seq.toNat % w.span)
                  { cell := c.copy.cell, path := c.path, quality := c.quality, arrival := c.copy.arrival }
                arrivals := s.rejoin.arrivals.upd c.path fun x => { x with first := oneMore x.first } } })) ∧
  (∀ (c : Taken) (w : Window) (s : State), s.role = .truck ∨ s.time.state ≠ .free →
    windowOf s c.copy.cell.stream = some w → w.anchored = true → inSpan w c = true →
    ¬BeingReleased s w c →
    (isLate s c = true →
      takeCopy c s = countedLate c { s with
        rejoin := { s.rejoin with
          windows := sset s.rejoin.windows c.copy.cell.stream (some { w with strayRun := 0 }) } }) ∧
      (isLate s c = false → isEarly s c = true →
        takeCopy c s = countedEarly c { s with
          rejoin := { s.rejoin with
            windows := sset s.rejoin.windows c.copy.cell.stream (some { w with strayRun := 0 }) } })) ∧
  (∀ (c : Taken) (w : Window) (s : State), s.role = .truck ∨ s.time.state ≠ .free →
    windowOf s c.copy.cell.stream = some w → w.anchored = true → w.span ≤ seqDist c.copy.cell.seq w.nr →
    (32768 ≤ seqDist c.copy.cell.seq w.nr → atOrAfter w.originMark c.copy.cell.origin = true →
      takeCopy c s =
        { s with
          rejoin :=
            { s.rejoin with
              counts := supd s.rejoin.counts c.copy.cell.stream fun x => { x with stale := oneMore x.stale } } }) ∧
      (seqDist c.copy.cell.seq w.nr < 32768 ∨ atOrAfter w.originMark c.copy.cell.origin = false → w.strayRun < 7 →
        takeCopy c s =
          { s with
            rejoin :=
              { s.rejoin with
                counts := supd s.rejoin.counts c.copy.cell.stream fun x => { x with strays := oneMore x.strays }
                windows :=
                  sset s.rejoin.windows c.copy.cell.stream (some { w with strayRun := w.strayRun + 1 }) } })) ∧
  (∀ (w : Window) (s : State),
    (lowestHeld s w = none ↔ heldIn s w = []) ∧
      ∀ h, lowestHeld s w = some h →
        (∃ x, (x, h) ∈ heldIn s w) ∧ ∀ e ∈ heldIn s w, seqDist h.cell.seq w.nr ≤ seqDist e.2.cell.seq w.nr) ∧
  ∀ (c : Taken) (w : Window) (s : State),
    (inSpan w c = true ↔ seqDist c.copy.cell.seq w.nr < w.span) ∧
      (isStray w c = true ↔ w.span ≤ seqDist c.copy.cell.seq w.nr ∧
        (seqDist c.copy.cell.seq w.nr < 32768 ∨ atOrAfter w.originMark c.copy.cell.origin = false)) ∧
      (isLate s c = true ↔
        tsub s.clock.link
          ((c.copy.cell.origin + (sget s.plan.active c.copy.cell.stream).hold * 125) % 65536000) < 32768000) ∧
      (isEarly s c = true ↔ 2 * ((sget s.plan.active c.copy.cell.stream).hold * 125) <
        tsub ((c.copy.cell.origin + (sget s.plan.active c.copy.cell.stream).hold * 125) % 65536000) s.clock.link)

/-- R96, R97, R98, R99, R108, R131, R177, R187: the release event of a stream other than 0 sends, at the release time of
the lowest held cell, a gap marker for the sequences that are missing before it and then the cell's record; its slot is
EMPTY, NR is the sequence behind it, the origin mark its origin time, and the next release event that of the lowest cell
then held. In a sound state every other held cell stays, but for those of the stream that are overdue as they become the
lowest held one, which are expelled and counted late for their stream and path. A release of stream 0 hands the message of
the payload to its block instead, unless it carries this terminal's own role or is of no defined kind. A NOTICE replaces
the peer notice record and raises PEER-ATTENTION, a PARKING message sets the peer parking record, a TUNNEL-RESPONSE goes
to its port, and the inner frame of a TUNNEL-REQUEST is executed as a command from PT with the port, rank and tag it
carries. That a NOTICE is read by its low 24 bits (assumption log 9), and what an inner frame that is no command brings
(assumption log 12), is the model's choice, and so is that the window, the store and the counters are as the release
leaves them when a message of stream 0 is handed on (assumption log 52), that a cell exactly half of M from its release
time is not overdue (assumption log 46), and that a row whose stream has no release event due changes nothing (assumption
log 13). -/
def Obligations.ReleaseEventSendsTheCell : Prop :=
  (∀ (i : StreamIx) (w : Window) (h : Held) (s : State), i ≠ 0 → windowOf s i = some w → w.next = some s.clock.link →
    lowestHeld s w = some h →
    ∃ t : State,
      exec (.releaseEvent i) s = .next t ∧
        t.out.egress = s.out.egress ++
          (if seqDist h.cell.seq w.nr = 0 then [] else [.gap i w.nr (seqDist h.cell.seq w.nr)]) ++
          [.cell i h.cell.seq h.quality h.path h.cell.copyIndex h.cell.payload] ∧
        Released i w h s t ∧
        (t.plan, t.clock, t.framer, t.sup, t.storm, t.switch, t.ports) =
          (s.plan, s.clock, s.framer, s.sup, s.storm, s.switch, s.ports)) ∧
  (∀ (w : Window) (h : Held) (m : Message) (s : State), windowOf s 0 = some w → w.next = some s.clock.link →
    lowestHeld s w = some h → messageOf h.cell.payload = some m →
    exec (.releaseEvent 0) s =
      .next
        (if messageRole m = s.role then unknownMessage (afterLowest 0 (vacate 0 w h (declareGap 0 w h s)))
         else deliver m (afterLowest 0 (vacate 0 w h (declareGap 0 w h s))))) ∧
  (∀ (w : Window) (h : Held) (s : State), windowOf s 0 = some w → lowestHeld s w = some h →
    ∃ t : State,
      afterLowest 0 (vacate 0 w h (declareGap 0 w h s)) = t ∧ Released 0 w h s t ∧ t.out = s.out ∧
        (t.plan, t.clock, t.framer, t.sup, t.storm, t.switch, t.ports) =
          (s.plan, s.clock, s.framer, s.sup, s.storm, s.switch, s.ports)) ∧
  (∀ (w : Window) (h : Held) (s : State), windowOf s 0 = some w → w.next = some s.clock.link →
    lowestHeld s w = some h → messageOf h.cell.payload = none →
    exec (.releaseEvent 0) s =
      .next (unknownMessage (afterLowest 0 (vacate 0 w h (declareGap 0 w h s))))) ∧
  (∀ (r : Role) (k : BitVec 32) (n : BitVec 16) (p : Port) (tag part : Byte) (last : Bool) (d : List Byte) (s : State),
    deliver (.notice r k) s =
        raise kindPeerAttention { s with ev := { s.ev with peerNotice := some (k.setWidth 24) } } ∧
      deliver (.parking r n) s = { s with storm := { s.storm with peerParking := some n.toNat } } ∧
      deliver (.tunnelResponse r p tag part last d) s = takeResponse p tag part last d s ∧
      (∀ (rank : Byte) (q : Request) (i : Instr), parseFrame d = .request q →
        commandFrom (.pt p rank tag) q = some i → exec i s = .next (deliver (.tunnelRequest r p rank tag d) s)) ∧
      (∀ (rank code : Byte), parseFrame d = .unknown code →
        deliver (.tunnelRequest r p rank tag d) s =
          respond (.pt p rank tag) code (bare .unknownCommand) (received (.pt p rank tag) s)
            (received (.pt p rank tag) s)) ∧
      (∀ rank : Byte, parseFrame d = .discarded ∨ parseFrame d = .ignored →
        deliver (.tunnelRequest r p rank tag d) s = s) ∧
      unknownMessage s =
        { s with rejoin := { s.rejoin with unknownMessages := oneMore s.rejoin.unknownMessages } }) ∧
  (∀ (i : StreamIx) (s : State), releaseDue s i = none → exec (.releaseEvent i) s = .next s) ∧
  ∀ (i : StreamIx) (h : Held) (s : State),
    overdue s i h = true ↔
      s.clock.link ≠ (h.cell.origin + (sget s.plan.active i).hold * 125) % 65536000 ∧
        tsub s.clock.link ((h.cell.origin + (sget s.plan.active i).hold * 125) % 65536000) < 32768000

/-! ### Invariants -/

/-- R4, R5, R17, R19, R20, R138, R143: every step keeps the stream plan sound. -/
def Obligations.StepsKeepThePlanSound : Prop :=
  ∀ s t : State, PlanSound s → step s = .next t → PlanSound t

/-- R84, R85, R103: with a sound plan every step keeps the windows laid out as the active plan says and the cell store in
its canonical form, each HELD cell at the place of its sequence in its stream's window, so that no two streams share a
place. -/
def Obligations.StepsKeepTheStoreSound : Prop :=
  (∀ s t : State, PlanSound s → StoreSound s → step s = .next t → StoreSound t) ∧
  ∀ (s : State) (i j : StreamIx) (v w : Window), PlanSound s → StoreSound s → windowOf s i = some v →
    windowOf s j = some w → i < j → v.offset + v.span ≤ w.offset ∧ w.offset + w.span ≤ 8192

/-- R121, R63, R81, R78, R152, R67, R162, R184: every step keeps what is derived as its rule gives it: the effective
level, the conditions, each one that holds standing in every event set, the time source and whether the record is LOCKED
on it, the reference path, and the swept path. -/
def Obligations.StepsKeepWhatIsDerived : Prop :=
  ∀ s t : State, DerivedSound s → step s = .next t → DerivedSound t

/-- R32, R34, R174, R160: every step keeps the outbox and the queues within their capacities, some requester at rank 0, link
time below M, and fewer than 32 completed steps in a sweep in hand. -/
def Obligations.StepsKeepTheLimits : Prop :=
  ∀ s t : State, WithinLimits s → step s = .next t → WithinLimits t

/-- The state after a power-on reset meets the four invariants, and so does what each reset leaves of a sound state:
power-on, brownout, RESET from a local port, and the pending reset, drained or at its limit. -/
def Obligations.ResetsAreSound : Prop :=
  PlanSound State.reset ∧ StoreSound State.reset ∧ DerivedSound State.reset ∧ WithinLimits State.reset ∧
    ∀ (r : Role) (p : Port) (w : Drain) (s t : State), PlanSound s → WithinLimits s →
      exec (.powerOnReset r) s = .next t ∨ exec (.brownoutReset r) s = .next t ∨
        (Passes 3 0 (.lp p) s ∧ exec (.reset (.lp p)) s = .next t) ∨
        (boundary s = true ∧ s.ports.resetPending = some w ∧
          (((∃ q, w.moved = some q ∧ drainedTo q s = true) ∧ exec .resetPendingDrained s = .next t) ∨
            (w.left ≤ 1 ∧ exec .resetPendingLimit s = .next t))) →
      PlanSound t ∧ StoreSound t ∧ DerivedSound t ∧ WithinLimits t

end Statements
end

