-- ==== Sys2Proof/Laws/State.lean ====
section
/-! SUPPORT. What each change of one block does to each field of the state, and reading back the tables kept per path,
port, requester and stream: the lemmas that later proofs use instead of unfolding a change. -/

namespace Sys2Proof.Machine

section Blocks

variable (s : State)

/-! ### modClock -/

@[simp] theorem modClock_pending (f : Clock → Clock) : (modClock f s).pending = s.pending := rfl
@[simp] theorem modClock_roleLine (f : Clock → Clock) : (modClock f s).roleLine = s.roleLine := rfl
@[simp] theorem modClock_fieldLine (f : Clock → Clock) : (modClock f s).fieldLine = s.fieldLine := rfl
@[simp] theorem modClock_role (f : Clock → Clock) : (modClock f s).role = s.role := rfl
@[simp] theorem modClock_clock (f : Clock → Clock) : (modClock f s).clock = f s.clock := rfl
@[simp] theorem modClock_plan (f : Clock → Clock) : (modClock f s).plan = s.plan := rfl
@[simp] theorem modClock_disp (f : Clock → Clock) : (modClock f s).disp = s.disp := rfl
@[simp] theorem modClock_framer (f : Clock → Clock) : (modClock f s).framer = s.framer := rfl
@[simp] theorem modClock_sup (f : Clock → Clock) : (modClock f s).sup = s.sup := rfl
@[simp] theorem modClock_radio (f : Clock → Clock) : (modClock f s).radio = s.radio := rfl
@[simp] theorem modClock_time (f : Clock → Clock) : (modClock f s).time = s.time := rfl
@[simp] theorem modClock_rejoin (f : Clock → Clock) : (modClock f s).rejoin = s.rejoin := rfl
@[simp] theorem modClock_storm (f : Clock → Clock) : (modClock f s).storm = s.storm := rfl
@[simp] theorem modClock_holdUp (f : Clock → Clock) : (modClock f s).holdUp = s.holdUp := rfl
@[simp] theorem modClock_switch (f : Clock → Clock) : (modClock f s).switch = s.switch := rfl
@[simp] theorem modClock_sweep (f : Clock → Clock) : (modClock f s).sweep = s.sweep := rfl
@[simp] theorem modClock_ports (f : Clock → Clock) : (modClock f s).ports = s.ports := rfl
@[simp] theorem modClock_ev (f : Clock → Clock) : (modClock f s).ev = s.ev := rfl
@[simp] theorem modClock_out (f : Clock → Clock) : (modClock f s).out = s.out := rfl
@[simp] theorem modClock_choices (f : Clock → Clock) : (modClock f s).choices = s.choices := rfl

/-! ### modPlan -/

@[simp] theorem modPlan_pending (f : PlanState → PlanState) : (modPlan f s).pending = s.pending := rfl
@[simp] theorem modPlan_roleLine (f : PlanState → PlanState) : (modPlan f s).roleLine = s.roleLine := rfl
@[simp] theorem modPlan_fieldLine (f : PlanState → PlanState) : (modPlan f s).fieldLine = s.fieldLine := rfl
@[simp] theorem modPlan_role (f : PlanState → PlanState) : (modPlan f s).role = s.role := rfl
@[simp] theorem modPlan_clock (f : PlanState → PlanState) : (modPlan f s).clock = s.clock := rfl
@[simp] theorem modPlan_plan (f : PlanState → PlanState) : (modPlan f s).plan = f s.plan := rfl
@[simp] theorem modPlan_disp (f : PlanState → PlanState) : (modPlan f s).disp = s.disp := rfl
@[simp] theorem modPlan_framer (f : PlanState → PlanState) : (modPlan f s).framer = s.framer := rfl
@[simp] theorem modPlan_sup (f : PlanState → PlanState) : (modPlan f s).sup = s.sup := rfl
@[simp] theorem modPlan_radio (f : PlanState → PlanState) : (modPlan f s).radio = s.radio := rfl
@[simp] theorem modPlan_time (f : PlanState → PlanState) : (modPlan f s).time = s.time := rfl
@[simp] theorem modPlan_rejoin (f : PlanState → PlanState) : (modPlan f s).rejoin = s.rejoin := rfl
@[simp] theorem modPlan_storm (f : PlanState → PlanState) : (modPlan f s).storm = s.storm := rfl
@[simp] theorem modPlan_holdUp (f : PlanState → PlanState) : (modPlan f s).holdUp = s.holdUp := rfl
@[simp] theorem modPlan_switch (f : PlanState → PlanState) : (modPlan f s).switch = s.switch := rfl
@[simp] theorem modPlan_sweep (f : PlanState → PlanState) : (modPlan f s).sweep = s.sweep := rfl
@[simp] theorem modPlan_ports (f : PlanState → PlanState) : (modPlan f s).ports = s.ports := rfl
@[simp] theorem modPlan_ev (f : PlanState → PlanState) : (modPlan f s).ev = s.ev := rfl
@[simp] theorem modPlan_out (f : PlanState → PlanState) : (modPlan f s).out = s.out := rfl
@[simp] theorem modPlan_choices (f : PlanState → PlanState) : (modPlan f s).choices = s.choices := rfl

/-! ### modDisp -/

@[simp] theorem modDisp_pending (f : DispatchState → DispatchState) : (modDisp f s).pending = s.pending := rfl
@[simp] theorem modDisp_roleLine (f : DispatchState → DispatchState) : (modDisp f s).roleLine = s.roleLine := rfl
@[simp] theorem modDisp_fieldLine (f : DispatchState → DispatchState) : (modDisp f s).fieldLine = s.fieldLine := rfl
@[simp] theorem modDisp_role (f : DispatchState → DispatchState) : (modDisp f s).role = s.role := rfl
@[simp] theorem modDisp_clock (f : DispatchState → DispatchState) : (modDisp f s).clock = s.clock := rfl
@[simp] theorem modDisp_plan (f : DispatchState → DispatchState) : (modDisp f s).plan = s.plan := rfl
@[simp] theorem modDisp_disp (f : DispatchState → DispatchState) : (modDisp f s).disp = f s.disp := rfl
@[simp] theorem modDisp_framer (f : DispatchState → DispatchState) : (modDisp f s).framer = s.framer := rfl
@[simp] theorem modDisp_sup (f : DispatchState → DispatchState) : (modDisp f s).sup = s.sup := rfl
@[simp] theorem modDisp_radio (f : DispatchState → DispatchState) : (modDisp f s).radio = s.radio := rfl
@[simp] theorem modDisp_time (f : DispatchState → DispatchState) : (modDisp f s).time = s.time := rfl
@[simp] theorem modDisp_rejoin (f : DispatchState → DispatchState) : (modDisp f s).rejoin = s.rejoin := rfl
@[simp] theorem modDisp_storm (f : DispatchState → DispatchState) : (modDisp f s).storm = s.storm := rfl
@[simp] theorem modDisp_holdUp (f : DispatchState → DispatchState) : (modDisp f s).holdUp = s.holdUp := rfl
@[simp] theorem modDisp_switch (f : DispatchState → DispatchState) : (modDisp f s).switch = s.switch := rfl
@[simp] theorem modDisp_sweep (f : DispatchState → DispatchState) : (modDisp f s).sweep = s.sweep := rfl
@[simp] theorem modDisp_ports (f : DispatchState → DispatchState) : (modDisp f s).ports = s.ports := rfl
@[simp] theorem modDisp_ev (f : DispatchState → DispatchState) : (modDisp f s).ev = s.ev := rfl
@[simp] theorem modDisp_out (f : DispatchState → DispatchState) : (modDisp f s).out = s.out := rfl
@[simp] theorem modDisp_choices (f : DispatchState → DispatchState) : (modDisp f s).choices = s.choices := rfl

/-! ### modRadio -/

@[simp] theorem modRadio_pending (f : Radio → Radio) : (modRadio f s).pending = s.pending := rfl
@[simp] theorem modRadio_roleLine (f : Radio → Radio) : (modRadio f s).roleLine = s.roleLine := rfl
@[simp] theorem modRadio_fieldLine (f : Radio → Radio) : (modRadio f s).fieldLine = s.fieldLine := rfl
@[simp] theorem modRadio_role (f : Radio → Radio) : (modRadio f s).role = s.role := rfl
@[simp] theorem modRadio_clock (f : Radio → Radio) : (modRadio f s).clock = s.clock := rfl
@[simp] theorem modRadio_plan (f : Radio → Radio) : (modRadio f s).plan = s.plan := rfl
@[simp] theorem modRadio_disp (f : Radio → Radio) : (modRadio f s).disp = s.disp := rfl
@[simp] theorem modRadio_framer (f : Radio → Radio) : (modRadio f s).framer = s.framer := rfl
@[simp] theorem modRadio_sup (f : Radio → Radio) : (modRadio f s).sup = s.sup := rfl
@[simp] theorem modRadio_radio (f : Radio → Radio) : (modRadio f s).radio = f s.radio := rfl
@[simp] theorem modRadio_time (f : Radio → Radio) : (modRadio f s).time = s.time := rfl
@[simp] theorem modRadio_rejoin (f : Radio → Radio) : (modRadio f s).rejoin = s.rejoin := rfl
@[simp] theorem modRadio_storm (f : Radio → Radio) : (modRadio f s).storm = s.storm := rfl
@[simp] theorem modRadio_holdUp (f : Radio → Radio) : (modRadio f s).holdUp = s.holdUp := rfl
@[simp] theorem modRadio_switch (f : Radio → Radio) : (modRadio f s).switch = s.switch := rfl
@[simp] theorem modRadio_sweep (f : Radio → Radio) : (modRadio f s).sweep = s.sweep := rfl
@[simp] theorem modRadio_ports (f : Radio → Radio) : (modRadio f s).ports = s.ports := rfl
@[simp] theorem modRadio_ev (f : Radio → Radio) : (modRadio f s).ev = s.ev := rfl
@[simp] theorem modRadio_out (f : Radio → Radio) : (modRadio f s).out = s.out := rfl
@[simp] theorem modRadio_choices (f : Radio → Radio) : (modRadio f s).choices = s.choices := rfl

/-! ### modTime -/

@[simp] theorem modTime_pending (f : TimeRecord → TimeRecord) : (modTime f s).pending = s.pending := rfl
@[simp] theorem modTime_roleLine (f : TimeRecord → TimeRecord) : (modTime f s).roleLine = s.roleLine := rfl
@[simp] theorem modTime_fieldLine (f : TimeRecord → TimeRecord) : (modTime f s).fieldLine = s.fieldLine := rfl
@[simp] theorem modTime_role (f : TimeRecord → TimeRecord) : (modTime f s).role = s.role := rfl
@[simp] theorem modTime_clock (f : TimeRecord → TimeRecord) : (modTime f s).clock = s.clock := rfl
@[simp] theorem modTime_plan (f : TimeRecord → TimeRecord) : (modTime f s).plan = s.plan := rfl
@[simp] theorem modTime_disp (f : TimeRecord → TimeRecord) : (modTime f s).disp = s.disp := rfl
@[simp] theorem modTime_framer (f : TimeRecord → TimeRecord) : (modTime f s).framer = s.framer := rfl
@[simp] theorem modTime_sup (f : TimeRecord → TimeRecord) : (modTime f s).sup = s.sup := rfl
@[simp] theorem modTime_radio (f : TimeRecord → TimeRecord) : (modTime f s).radio = s.radio := rfl
@[simp] theorem modTime_time (f : TimeRecord → TimeRecord) : (modTime f s).time = f s.time := rfl
@[simp] theorem modTime_rejoin (f : TimeRecord → TimeRecord) : (modTime f s).rejoin = s.rejoin := rfl
@[simp] theorem modTime_storm (f : TimeRecord → TimeRecord) : (modTime f s).storm = s.storm := rfl
@[simp] theorem modTime_holdUp (f : TimeRecord → TimeRecord) : (modTime f s).holdUp = s.holdUp := rfl
@[simp] theorem modTime_switch (f : TimeRecord → TimeRecord) : (modTime f s).switch = s.switch := rfl
@[simp] theorem modTime_sweep (f : TimeRecord → TimeRecord) : (modTime f s).sweep = s.sweep := rfl
@[simp] theorem modTime_ports (f : TimeRecord → TimeRecord) : (modTime f s).ports = s.ports := rfl
@[simp] theorem modTime_ev (f : TimeRecord → TimeRecord) : (modTime f s).ev = s.ev := rfl
@[simp] theorem modTime_out (f : TimeRecord → TimeRecord) : (modTime f s).out = s.out := rfl
@[simp] theorem modTime_choices (f : TimeRecord → TimeRecord) : (modTime f s).choices = s.choices := rfl

/-! ### modRejoin -/

@[simp] theorem modRejoin_pending (f : Rejoin → Rejoin) : (modRejoin f s).pending = s.pending := rfl
@[simp] theorem modRejoin_roleLine (f : Rejoin → Rejoin) : (modRejoin f s).roleLine = s.roleLine := rfl
@[simp] theorem modRejoin_fieldLine (f : Rejoin → Rejoin) : (modRejoin f s).fieldLine = s.fieldLine := rfl
@[simp] theorem modRejoin_role (f : Rejoin → Rejoin) : (modRejoin f s).role = s.role := rfl
@[simp] theorem modRejoin_clock (f : Rejoin → Rejoin) : (modRejoin f s).clock = s.clock := rfl
@[simp] theorem modRejoin_plan (f : Rejoin → Rejoin) : (modRejoin f s).plan = s.plan := rfl
@[simp] theorem modRejoin_disp (f : Rejoin → Rejoin) : (modRejoin f s).disp = s.disp := rfl
@[simp] theorem modRejoin_framer (f : Rejoin → Rejoin) : (modRejoin f s).framer = s.framer := rfl
@[simp] theorem modRejoin_sup (f : Rejoin → Rejoin) : (modRejoin f s).sup = s.sup := rfl
@[simp] theorem modRejoin_radio (f : Rejoin → Rejoin) : (modRejoin f s).radio = s.radio := rfl
@[simp] theorem modRejoin_time (f : Rejoin → Rejoin) : (modRejoin f s).time = s.time := rfl
@[simp] theorem modRejoin_rejoin (f : Rejoin → Rejoin) : (modRejoin f s).rejoin = f s.rejoin := rfl
@[simp] theorem modRejoin_storm (f : Rejoin → Rejoin) : (modRejoin f s).storm = s.storm := rfl
@[simp] theorem modRejoin_holdUp (f : Rejoin → Rejoin) : (modRejoin f s).holdUp = s.holdUp := rfl
@[simp] theorem modRejoin_switch (f : Rejoin → Rejoin) : (modRejoin f s).switch = s.switch := rfl
@[simp] theorem modRejoin_sweep (f : Rejoin → Rejoin) : (modRejoin f s).sweep = s.sweep := rfl
@[simp] theorem modRejoin_ports (f : Rejoin → Rejoin) : (modRejoin f s).ports = s.ports := rfl
@[simp] theorem modRejoin_ev (f : Rejoin → Rejoin) : (modRejoin f s).ev = s.ev := rfl
@[simp] theorem modRejoin_out (f : Rejoin → Rejoin) : (modRejoin f s).out = s.out := rfl
@[simp] theorem modRejoin_choices (f : Rejoin → Rejoin) : (modRejoin f s).choices = s.choices := rfl

/-! ### modStorm -/

@[simp] theorem modStorm_pending (f : Storm → Storm) : (modStorm f s).pending = s.pending := rfl
@[simp] theorem modStorm_roleLine (f : Storm → Storm) : (modStorm f s).roleLine = s.roleLine := rfl
@[simp] theorem modStorm_fieldLine (f : Storm → Storm) : (modStorm f s).fieldLine = s.fieldLine := rfl
@[simp] theorem modStorm_role (f : Storm → Storm) : (modStorm f s).role = s.role := rfl
@[simp] theorem modStorm_clock (f : Storm → Storm) : (modStorm f s).clock = s.clock := rfl
@[simp] theorem modStorm_plan (f : Storm → Storm) : (modStorm f s).plan = s.plan := rfl
@[simp] theorem modStorm_disp (f : Storm → Storm) : (modStorm f s).disp = s.disp := rfl
@[simp] theorem modStorm_framer (f : Storm → Storm) : (modStorm f s).framer = s.framer := rfl
@[simp] theorem modStorm_sup (f : Storm → Storm) : (modStorm f s).sup = s.sup := rfl
@[simp] theorem modStorm_radio (f : Storm → Storm) : (modStorm f s).radio = s.radio := rfl
@[simp] theorem modStorm_time (f : Storm → Storm) : (modStorm f s).time = s.time := rfl
@[simp] theorem modStorm_rejoin (f : Storm → Storm) : (modStorm f s).rejoin = s.rejoin := rfl
@[simp] theorem modStorm_storm (f : Storm → Storm) : (modStorm f s).storm = f s.storm := rfl
@[simp] theorem modStorm_holdUp (f : Storm → Storm) : (modStorm f s).holdUp = s.holdUp := rfl
@[simp] theorem modStorm_switch (f : Storm → Storm) : (modStorm f s).switch = s.switch := rfl
@[simp] theorem modStorm_sweep (f : Storm → Storm) : (modStorm f s).sweep = s.sweep := rfl
@[simp] theorem modStorm_ports (f : Storm → Storm) : (modStorm f s).ports = s.ports := rfl
@[simp] theorem modStorm_ev (f : Storm → Storm) : (modStorm f s).ev = s.ev := rfl
@[simp] theorem modStorm_out (f : Storm → Storm) : (modStorm f s).out = s.out := rfl
@[simp] theorem modStorm_choices (f : Storm → Storm) : (modStorm f s).choices = s.choices := rfl

/-! ### modHoldUp -/

@[simp] theorem modHoldUp_pending (f : HoldUp → HoldUp) : (modHoldUp f s).pending = s.pending := rfl
@[simp] theorem modHoldUp_roleLine (f : HoldUp → HoldUp) : (modHoldUp f s).roleLine = s.roleLine := rfl
@[simp] theorem modHoldUp_fieldLine (f : HoldUp → HoldUp) : (modHoldUp f s).fieldLine = s.fieldLine := rfl
@[simp] theorem modHoldUp_role (f : HoldUp → HoldUp) : (modHoldUp f s).role = s.role := rfl
@[simp] theorem modHoldUp_clock (f : HoldUp → HoldUp) : (modHoldUp f s).clock = s.clock := rfl
@[simp] theorem modHoldUp_plan (f : HoldUp → HoldUp) : (modHoldUp f s).plan = s.plan := rfl
@[simp] theorem modHoldUp_disp (f : HoldUp → HoldUp) : (modHoldUp f s).disp = s.disp := rfl
@[simp] theorem modHoldUp_framer (f : HoldUp → HoldUp) : (modHoldUp f s).framer = s.framer := rfl
@[simp] theorem modHoldUp_sup (f : HoldUp → HoldUp) : (modHoldUp f s).sup = s.sup := rfl
@[simp] theorem modHoldUp_radio (f : HoldUp → HoldUp) : (modHoldUp f s).radio = s.radio := rfl
@[simp] theorem modHoldUp_time (f : HoldUp → HoldUp) : (modHoldUp f s).time = s.time := rfl
@[simp] theorem modHoldUp_rejoin (f : HoldUp → HoldUp) : (modHoldUp f s).rejoin = s.rejoin := rfl
@[simp] theorem modHoldUp_storm (f : HoldUp → HoldUp) : (modHoldUp f s).storm = s.storm := rfl
@[simp] theorem modHoldUp_holdUp (f : HoldUp → HoldUp) : (modHoldUp f s).holdUp = f s.holdUp := rfl
@[simp] theorem modHoldUp_switch (f : HoldUp → HoldUp) : (modHoldUp f s).switch = s.switch := rfl
@[simp] theorem modHoldUp_sweep (f : HoldUp → HoldUp) : (modHoldUp f s).sweep = s.sweep := rfl
@[simp] theorem modHoldUp_ports (f : HoldUp → HoldUp) : (modHoldUp f s).ports = s.ports := rfl
@[simp] theorem modHoldUp_ev (f : HoldUp → HoldUp) : (modHoldUp f s).ev = s.ev := rfl
@[simp] theorem modHoldUp_out (f : HoldUp → HoldUp) : (modHoldUp f s).out = s.out := rfl
@[simp] theorem modHoldUp_choices (f : HoldUp → HoldUp) : (modHoldUp f s).choices = s.choices := rfl

/-! ### modSwitch -/

@[simp] theorem modSwitch_pending (f : Switch → Switch) : (modSwitch f s).pending = s.pending := rfl
@[simp] theorem modSwitch_roleLine (f : Switch → Switch) : (modSwitch f s).roleLine = s.roleLine := rfl
@[simp] theorem modSwitch_fieldLine (f : Switch → Switch) : (modSwitch f s).fieldLine = s.fieldLine := rfl
@[simp] theorem modSwitch_role (f : Switch → Switch) : (modSwitch f s).role = s.role := rfl
@[simp] theorem modSwitch_clock (f : Switch → Switch) : (modSwitch f s).clock = s.clock := rfl
@[simp] theorem modSwitch_plan (f : Switch → Switch) : (modSwitch f s).plan = s.plan := rfl
@[simp] theorem modSwitch_disp (f : Switch → Switch) : (modSwitch f s).disp = s.disp := rfl
@[simp] theorem modSwitch_framer (f : Switch → Switch) : (modSwitch f s).framer = s.framer := rfl
@[simp] theorem modSwitch_sup (f : Switch → Switch) : (modSwitch f s).sup = s.sup := rfl
@[simp] theorem modSwitch_radio (f : Switch → Switch) : (modSwitch f s).radio = s.radio := rfl
@[simp] theorem modSwitch_time (f : Switch → Switch) : (modSwitch f s).time = s.time := rfl
@[simp] theorem modSwitch_rejoin (f : Switch → Switch) : (modSwitch f s).rejoin = s.rejoin := rfl
@[simp] theorem modSwitch_storm (f : Switch → Switch) : (modSwitch f s).storm = s.storm := rfl
@[simp] theorem modSwitch_holdUp (f : Switch → Switch) : (modSwitch f s).holdUp = s.holdUp := rfl
@[simp] theorem modSwitch_switch (f : Switch → Switch) : (modSwitch f s).switch = f s.switch := rfl
@[simp] theorem modSwitch_sweep (f : Switch → Switch) : (modSwitch f s).sweep = s.sweep := rfl
@[simp] theorem modSwitch_ports (f : Switch → Switch) : (modSwitch f s).ports = s.ports := rfl
@[simp] theorem modSwitch_ev (f : Switch → Switch) : (modSwitch f s).ev = s.ev := rfl
@[simp] theorem modSwitch_out (f : Switch → Switch) : (modSwitch f s).out = s.out := rfl
@[simp] theorem modSwitch_choices (f : Switch → Switch) : (modSwitch f s).choices = s.choices := rfl

/-! ### modSweep -/

@[simp] theorem modSweep_pending (f : Sweep → Sweep) : (modSweep f s).pending = s.pending := rfl
@[simp] theorem modSweep_roleLine (f : Sweep → Sweep) : (modSweep f s).roleLine = s.roleLine := rfl
@[simp] theorem modSweep_fieldLine (f : Sweep → Sweep) : (modSweep f s).fieldLine = s.fieldLine := rfl
@[simp] theorem modSweep_role (f : Sweep → Sweep) : (modSweep f s).role = s.role := rfl
@[simp] theorem modSweep_clock (f : Sweep → Sweep) : (modSweep f s).clock = s.clock := rfl
@[simp] theorem modSweep_plan (f : Sweep → Sweep) : (modSweep f s).plan = s.plan := rfl
@[simp] theorem modSweep_disp (f : Sweep → Sweep) : (modSweep f s).disp = s.disp := rfl
@[simp] theorem modSweep_framer (f : Sweep → Sweep) : (modSweep f s).framer = s.framer := rfl
@[simp] theorem modSweep_sup (f : Sweep → Sweep) : (modSweep f s).sup = s.sup := rfl
@[simp] theorem modSweep_radio (f : Sweep → Sweep) : (modSweep f s).radio = s.radio := rfl
@[simp] theorem modSweep_time (f : Sweep → Sweep) : (modSweep f s).time = s.time := rfl
@[simp] theorem modSweep_rejoin (f : Sweep → Sweep) : (modSweep f s).rejoin = s.rejoin := rfl
@[simp] theorem modSweep_storm (f : Sweep → Sweep) : (modSweep f s).storm = s.storm := rfl
@[simp] theorem modSweep_holdUp (f : Sweep → Sweep) : (modSweep f s).holdUp = s.holdUp := rfl
@[simp] theorem modSweep_switch (f : Sweep → Sweep) : (modSweep f s).switch = s.switch := rfl
@[simp] theorem modSweep_sweep (f : Sweep → Sweep) : (modSweep f s).sweep = f s.sweep := rfl
@[simp] theorem modSweep_ports (f : Sweep → Sweep) : (modSweep f s).ports = s.ports := rfl
@[simp] theorem modSweep_ev (f : Sweep → Sweep) : (modSweep f s).ev = s.ev := rfl
@[simp] theorem modSweep_out (f : Sweep → Sweep) : (modSweep f s).out = s.out := rfl
@[simp] theorem modSweep_choices (f : Sweep → Sweep) : (modSweep f s).choices = s.choices := rfl

/-! ### modPorts -/

@[simp] theorem modPorts_pending (f : Ports → Ports) : (modPorts f s).pending = s.pending := rfl
@[simp] theorem modPorts_roleLine (f : Ports → Ports) : (modPorts f s).roleLine = s.roleLine := rfl
@[simp] theorem modPorts_fieldLine (f : Ports → Ports) : (modPorts f s).fieldLine = s.fieldLine := rfl
@[simp] theorem modPorts_role (f : Ports → Ports) : (modPorts f s).role = s.role := rfl
@[simp] theorem modPorts_clock (f : Ports → Ports) : (modPorts f s).clock = s.clock := rfl
@[simp] theorem modPorts_plan (f : Ports → Ports) : (modPorts f s).plan = s.plan := rfl
@[simp] theorem modPorts_disp (f : Ports → Ports) : (modPorts f s).disp = s.disp := rfl
@[simp] theorem modPorts_framer (f : Ports → Ports) : (modPorts f s).framer = s.framer := rfl
@[simp] theorem modPorts_sup (f : Ports → Ports) : (modPorts f s).sup = s.sup := rfl
@[simp] theorem modPorts_radio (f : Ports → Ports) : (modPorts f s).radio = s.radio := rfl
@[simp] theorem modPorts_time (f : Ports → Ports) : (modPorts f s).time = s.time := rfl
@[simp] theorem modPorts_rejoin (f : Ports → Ports) : (modPorts f s).rejoin = s.rejoin := rfl
@[simp] theorem modPorts_storm (f : Ports → Ports) : (modPorts f s).storm = s.storm := rfl
@[simp] theorem modPorts_holdUp (f : Ports → Ports) : (modPorts f s).holdUp = s.holdUp := rfl
@[simp] theorem modPorts_switch (f : Ports → Ports) : (modPorts f s).switch = s.switch := rfl
@[simp] theorem modPorts_sweep (f : Ports → Ports) : (modPorts f s).sweep = s.sweep := rfl
@[simp] theorem modPorts_ports (f : Ports → Ports) : (modPorts f s).ports = f s.ports := rfl
@[simp] theorem modPorts_ev (f : Ports → Ports) : (modPorts f s).ev = s.ev := rfl
@[simp] theorem modPorts_out (f : Ports → Ports) : (modPorts f s).out = s.out := rfl
@[simp] theorem modPorts_choices (f : Ports → Ports) : (modPorts f s).choices = s.choices := rfl

/-! ### modEvents -/

@[simp] theorem modEvents_pending (f : Events → Events) : (modEvents f s).pending = s.pending := rfl
@[simp] theorem modEvents_roleLine (f : Events → Events) : (modEvents f s).roleLine = s.roleLine := rfl
@[simp] theorem modEvents_fieldLine (f : Events → Events) : (modEvents f s).fieldLine = s.fieldLine := rfl
@[simp] theorem modEvents_role (f : Events → Events) : (modEvents f s).role = s.role := rfl
@[simp] theorem modEvents_clock (f : Events → Events) : (modEvents f s).clock = s.clock := rfl
@[simp] theorem modEvents_plan (f : Events → Events) : (modEvents f s).plan = s.plan := rfl
@[simp] theorem modEvents_disp (f : Events → Events) : (modEvents f s).disp = s.disp := rfl
@[simp] theorem modEvents_framer (f : Events → Events) : (modEvents f s).framer = s.framer := rfl
@[simp] theorem modEvents_sup (f : Events → Events) : (modEvents f s).sup = s.sup := rfl
@[simp] theorem modEvents_radio (f : Events → Events) : (modEvents f s).radio = s.radio := rfl
@[simp] theorem modEvents_time (f : Events → Events) : (modEvents f s).time = s.time := rfl
@[simp] theorem modEvents_rejoin (f : Events → Events) : (modEvents f s).rejoin = s.rejoin := rfl
@[simp] theorem modEvents_storm (f : Events → Events) : (modEvents f s).storm = s.storm := rfl
@[simp] theorem modEvents_holdUp (f : Events → Events) : (modEvents f s).holdUp = s.holdUp := rfl
@[simp] theorem modEvents_switch (f : Events → Events) : (modEvents f s).switch = s.switch := rfl
@[simp] theorem modEvents_sweep (f : Events → Events) : (modEvents f s).sweep = s.sweep := rfl
@[simp] theorem modEvents_ports (f : Events → Events) : (modEvents f s).ports = s.ports := rfl
@[simp] theorem modEvents_ev (f : Events → Events) : (modEvents f s).ev = f s.ev := rfl
@[simp] theorem modEvents_out (f : Events → Events) : (modEvents f s).out = s.out := rfl
@[simp] theorem modEvents_choices (f : Events → Events) : (modEvents f s).choices = s.choices := rfl

/-! ### modOut -/

@[simp] theorem modOut_pending (f : Outputs → Outputs) : (modOut f s).pending = s.pending := rfl
@[simp] theorem modOut_roleLine (f : Outputs → Outputs) : (modOut f s).roleLine = s.roleLine := rfl
@[simp] theorem modOut_fieldLine (f : Outputs → Outputs) : (modOut f s).fieldLine = s.fieldLine := rfl
@[simp] theorem modOut_role (f : Outputs → Outputs) : (modOut f s).role = s.role := rfl
@[simp] theorem modOut_clock (f : Outputs → Outputs) : (modOut f s).clock = s.clock := rfl
@[simp] theorem modOut_plan (f : Outputs → Outputs) : (modOut f s).plan = s.plan := rfl
@[simp] theorem modOut_disp (f : Outputs → Outputs) : (modOut f s).disp = s.disp := rfl
@[simp] theorem modOut_framer (f : Outputs → Outputs) : (modOut f s).framer = s.framer := rfl
@[simp] theorem modOut_sup (f : Outputs → Outputs) : (modOut f s).sup = s.sup := rfl
@[simp] theorem modOut_radio (f : Outputs → Outputs) : (modOut f s).radio = s.radio := rfl
@[simp] theorem modOut_time (f : Outputs → Outputs) : (modOut f s).time = s.time := rfl
@[simp] theorem modOut_rejoin (f : Outputs → Outputs) : (modOut f s).rejoin = s.rejoin := rfl
@[simp] theorem modOut_storm (f : Outputs → Outputs) : (modOut f s).storm = s.storm := rfl
@[simp] theorem modOut_holdUp (f : Outputs → Outputs) : (modOut f s).holdUp = s.holdUp := rfl
@[simp] theorem modOut_switch (f : Outputs → Outputs) : (modOut f s).switch = s.switch := rfl
@[simp] theorem modOut_sweep (f : Outputs → Outputs) : (modOut f s).sweep = s.sweep := rfl
@[simp] theorem modOut_ports (f : Outputs → Outputs) : (modOut f s).ports = s.ports := rfl
@[simp] theorem modOut_ev (f : Outputs → Outputs) : (modOut f s).ev = s.ev := rfl
@[simp] theorem modOut_out (f : Outputs → Outputs) : (modOut f s).out = f s.out := rfl
@[simp] theorem modOut_choices (f : Outputs → Outputs) : (modOut f s).choices = s.choices := rfl

/-! ### modFramer -/

@[simp] theorem modFramer_pending (p : Path) (f : Framer → Framer) : (modFramer p f s).pending = s.pending := rfl
@[simp] theorem modFramer_roleLine (p : Path) (f : Framer → Framer) : (modFramer p f s).roleLine = s.roleLine := rfl
@[simp] theorem modFramer_fieldLine (p : Path) (f : Framer → Framer) : (modFramer p f s).fieldLine = s.fieldLine := rfl
@[simp] theorem modFramer_role (p : Path) (f : Framer → Framer) : (modFramer p f s).role = s.role := rfl
@[simp] theorem modFramer_clock (p : Path) (f : Framer → Framer) : (modFramer p f s).clock = s.clock := rfl
@[simp] theorem modFramer_plan (p : Path) (f : Framer → Framer) : (modFramer p f s).plan = s.plan := rfl
@[simp] theorem modFramer_disp (p : Path) (f : Framer → Framer) : (modFramer p f s).disp = s.disp := rfl
@[simp] theorem modFramer_framer (p : Path) (f : Framer → Framer) : (modFramer p f s).framer = s.framer.upd p f := rfl
@[simp] theorem modFramer_sup (p : Path) (f : Framer → Framer) : (modFramer p f s).sup = s.sup := rfl
@[simp] theorem modFramer_radio (p : Path) (f : Framer → Framer) : (modFramer p f s).radio = s.radio := rfl
@[simp] theorem modFramer_time (p : Path) (f : Framer → Framer) : (modFramer p f s).time = s.time := rfl
@[simp] theorem modFramer_rejoin (p : Path) (f : Framer → Framer) : (modFramer p f s).rejoin = s.rejoin := rfl
@[simp] theorem modFramer_storm (p : Path) (f : Framer → Framer) : (modFramer p f s).storm = s.storm := rfl
@[simp] theorem modFramer_holdUp (p : Path) (f : Framer → Framer) : (modFramer p f s).holdUp = s.holdUp := rfl
@[simp] theorem modFramer_switch (p : Path) (f : Framer → Framer) : (modFramer p f s).switch = s.switch := rfl
@[simp] theorem modFramer_sweep (p : Path) (f : Framer → Framer) : (modFramer p f s).sweep = s.sweep := rfl
@[simp] theorem modFramer_ports (p : Path) (f : Framer → Framer) : (modFramer p f s).ports = s.ports := rfl
@[simp] theorem modFramer_ev (p : Path) (f : Framer → Framer) : (modFramer p f s).ev = s.ev := rfl
@[simp] theorem modFramer_out (p : Path) (f : Framer → Framer) : (modFramer p f s).out = s.out := rfl
@[simp] theorem modFramer_choices (p : Path) (f : Framer → Framer) : (modFramer p f s).choices = s.choices := rfl

/-! ### modSup -/

@[simp] theorem modSup_pending (p : Path) (f : Supervisor → Supervisor) : (modSup p f s).pending = s.pending := rfl
@[simp] theorem modSup_roleLine (p : Path) (f : Supervisor → Supervisor) : (modSup p f s).roleLine = s.roleLine := rfl
@[simp] theorem modSup_fieldLine (p : Path) (f : Supervisor → Supervisor) : (modSup p f s).fieldLine = s.fieldLine := rfl
@[simp] theorem modSup_role (p : Path) (f : Supervisor → Supervisor) : (modSup p f s).role = s.role := rfl
@[simp] theorem modSup_clock (p : Path) (f : Supervisor → Supervisor) : (modSup p f s).clock = s.clock := rfl
@[simp] theorem modSup_plan (p : Path) (f : Supervisor → Supervisor) : (modSup p f s).plan = s.plan := rfl
@[simp] theorem modSup_disp (p : Path) (f : Supervisor → Supervisor) : (modSup p f s).disp = s.disp := rfl
@[simp] theorem modSup_framer (p : Path) (f : Supervisor → Supervisor) : (modSup p f s).framer = s.framer := rfl
@[simp] theorem modSup_sup (p : Path) (f : Supervisor → Supervisor) : (modSup p f s).sup = s.sup.upd p f := rfl
@[simp] theorem modSup_radio (p : Path) (f : Supervisor → Supervisor) : (modSup p f s).radio = s.radio := rfl
@[simp] theorem modSup_time (p : Path) (f : Supervisor → Supervisor) : (modSup p f s).time = s.time := rfl
@[simp] theorem modSup_rejoin (p : Path) (f : Supervisor → Supervisor) : (modSup p f s).rejoin = s.rejoin := rfl
@[simp] theorem modSup_storm (p : Path) (f : Supervisor → Supervisor) : (modSup p f s).storm = s.storm := rfl
@[simp] theorem modSup_holdUp (p : Path) (f : Supervisor → Supervisor) : (modSup p f s).holdUp = s.holdUp := rfl
@[simp] theorem modSup_switch (p : Path) (f : Supervisor → Supervisor) : (modSup p f s).switch = s.switch := rfl
@[simp] theorem modSup_sweep (p : Path) (f : Supervisor → Supervisor) : (modSup p f s).sweep = s.sweep := rfl
@[simp] theorem modSup_ports (p : Path) (f : Supervisor → Supervisor) : (modSup p f s).ports = s.ports := rfl
@[simp] theorem modSup_ev (p : Path) (f : Supervisor → Supervisor) : (modSup p f s).ev = s.ev := rfl
@[simp] theorem modSup_out (p : Path) (f : Supervisor → Supervisor) : (modSup p f s).out = s.out := rfl
@[simp] theorem modSup_choices (p : Path) (f : Supervisor → Supervisor) : (modSup p f s).choices = s.choices := rfl

/-! ### modPort -/

@[simp] theorem modPort_pending (p : Port) (f : PortState → PortState) : (modPort p f s).pending = s.pending := rfl
@[simp] theorem modPort_roleLine (p : Port) (f : PortState → PortState) : (modPort p f s).roleLine = s.roleLine := rfl
@[simp] theorem modPort_fieldLine (p : Port) (f : PortState → PortState) : (modPort p f s).fieldLine = s.fieldLine := rfl
@[simp] theorem modPort_role (p : Port) (f : PortState → PortState) : (modPort p f s).role = s.role := rfl
@[simp] theorem modPort_clock (p : Port) (f : PortState → PortState) : (modPort p f s).clock = s.clock := rfl
@[simp] theorem modPort_plan (p : Port) (f : PortState → PortState) : (modPort p f s).plan = s.plan := rfl
@[simp] theorem modPort_disp (p : Port) (f : PortState → PortState) : (modPort p f s).disp = s.disp := rfl
@[simp] theorem modPort_framer (p : Port) (f : PortState → PortState) : (modPort p f s).framer = s.framer := rfl
@[simp] theorem modPort_sup (p : Port) (f : PortState → PortState) : (modPort p f s).sup = s.sup := rfl
@[simp] theorem modPort_radio (p : Port) (f : PortState → PortState) : (modPort p f s).radio = s.radio := rfl
@[simp] theorem modPort_time (p : Port) (f : PortState → PortState) : (modPort p f s).time = s.time := rfl
@[simp] theorem modPort_rejoin (p : Port) (f : PortState → PortState) : (modPort p f s).rejoin = s.rejoin := rfl
@[simp] theorem modPort_storm (p : Port) (f : PortState → PortState) : (modPort p f s).storm = s.storm := rfl
@[simp] theorem modPort_holdUp (p : Port) (f : PortState → PortState) : (modPort p f s).holdUp = s.holdUp := rfl
@[simp] theorem modPort_switch (p : Port) (f : PortState → PortState) : (modPort p f s).switch = s.switch := rfl
@[simp] theorem modPort_sweep (p : Port) (f : PortState → PortState) : (modPort p f s).sweep = s.sweep := rfl
@[simp] theorem modPort_ev (p : Port) (f : PortState → PortState) : (modPort p f s).ev = s.ev := rfl
@[simp] theorem modPort_out (p : Port) (f : PortState → PortState) : (modPort p f s).out = s.out := rfl
@[simp] theorem modPort_choices (p : Port) (f : PortState → PortState) : (modPort p f s).choices = s.choices := rfl
@[simp] theorem modPort_ports_ranks (p : Port) (f : PortState → PortState) :
    (modPort p f s).ports.ranks = s.ports.ranks := rfl
@[simp] theorem modPort_ports_resetPending (p : Port) (f : PortState → PortState) :
    (modPort p f s).ports.resetPending = s.ports.resetPending := rfl
@[simp] theorem modPort_ports_executed (p : Port) (f : PortState → PortState) :
    (modPort p f s).ports.executed = s.ports.executed := rfl
@[simp] theorem modPort_ports_draws (p : Port) (f : PortState → PortState) :
    (modPort p f s).ports.draws = s.ports.draws := rfl
@[simp] theorem modPort_ports_lp (p : Port) (f : PortState → PortState) :
    (modPort p f s).ports.lp = s.ports.lp.set p (f (s.ports.lp.get p)) := rfl

end Blocks

/-! ### Tables -/

section Tables

variable {α : Type}

@[simp] theorem PerPath.get_a (t : PerPath α) : t.get .a = t.a := rfl
@[simp] theorem PerPath.get_b (t : PerPath α) : t.get .b = t.b := rfl
@[simp] theorem PerPath.get_w (t : PerPath α) : t.get .w = t.w := rfl

@[simp] theorem PerPath.get_set_same (t : PerPath α) (p : Path) (x : α) : (t.set p x).get p = x := by
  cases p <;> rfl

theorem PerPath.get_set_other (t : PerPath α) {p q : Path} (x : α) (h : q ≠ p) : (t.set p x).get q = t.get q := by
  cases p <;> cases q <;> first | rfl | exact absurd rfl h

@[simp] theorem PerPath.get_upd_same (t : PerPath α) (p : Path) (f : α → α) : (t.upd p f).get p = f (t.get p) := by
  cases p <;> rfl

theorem PerPath.get_upd_other (t : PerPath α) {p q : Path} (f : α → α) (h : q ≠ p) : (t.upd p f).get q = t.get q := by
  cases p <;> cases q <;> first | rfl | exact absurd rfl h

@[simp] theorem PerPath.get_of (f : Path → α) (p : Path) : (PerPath.of f).get p = f p := by
  cases p <;> rfl

theorem PerPath.ext_get {t u : PerPath α} (h : ∀ p, t.get p = u.get p) : t = u := by
  cases t
  cases u
  have ha := h .a
  have hb := h .b
  have hw := h .w
  simp only [PerPath.get] at ha hb hw
  subst ha
  subst hb
  subst hw
  rfl

@[simp] theorem PerPort.get_set_same (t : PerPort α) (p : Port) (x : α) : (t.set p x).get p = x := by
  cases p <;> rfl

theorem PerPort.get_set_other (t : PerPort α) {p q : Port} (x : α) (h : q ≠ p) : (t.set p x).get q = t.get q := by
  cases p <;> cases q <;> first | rfl | exact absurd rfl h

@[simp] theorem PerReq.get_set_same (t : PerReq α) (r : Requester) (x : α) : (t.set r x).get r = x := by
  cases r <;> rfl

theorem PerReq.get_set_other (t : PerReq α) {r q : Requester} (x : α) (h : q ≠ r) : (t.set r x).get q = t.get q := by
  cases r <;> cases q <;> first | rfl | exact absurd rfl h

@[simp] theorem PerReq.get_of (f : Requester → α) (r : Requester) : (PerReq.of f).get r = f r := by
  cases r <;> rfl

@[simp] theorem sget_sset_same (t : PerStream α) (i : StreamIx) (x : α) : sget (sset t i x) i = x := by
  simp [sget, sset]

theorem sget_sset_other (t : PerStream α) {i j : StreamIx} (x : α) (h : j ≠ i) : sget (sset t i x) j = sget t j := by
  have hne : i.val ≠ j.val := fun e => h (Fin.ext e).symm
  simp [sget, sset, Vector.getElem_set, hne]

@[simp] theorem sget_sof (f : StreamIx → α) (i : StreamIx) : sget (sof f) i = f i := by
  simp [sget, sof]

@[simp] theorem sget_sall (x : α) (i : StreamIx) : sget (sall x) i = x := by
  simp [sget, sall]

theorem stream_ext {t u : PerStream α} (h : ∀ i, sget t i = sget u i) : t = u := by
  apply Vector.ext
  intro k hk
  exact h ⟨k, hk⟩

end Tables

end Sys2Proof.Machine
end

