-- ==== Sys2Proof/Laws/Frames.lean ====
section
/-! SUPPORT. What each shared operation of events, paths, radio and levels leaves unchanged: one lemma per operation. -/

namespace Sys2Proof.Machine

variable (s : State)

@[simp] theorem placeAwaited_frame (m : Message) (w : Awaited) :
    (placeAwaited m w s).pending = s.pending ∧ (placeAwaited m w s).roleLine = s.roleLine ∧ (placeAwaited m
    w s).fieldLine = s.fieldLine ∧ (placeAwaited m w s).role = s.role ∧ (placeAwaited m w s).clock = s.clock
    ∧ (placeAwaited m w s).plan = s.plan ∧ (placeAwaited m w s).framer = s.framer ∧ (placeAwaited m w s).sup
    = s.sup ∧ (placeAwaited m w s).radio = s.radio ∧ (placeAwaited m w s).time = s.time ∧ (placeAwaited m w
    s).rejoin = s.rejoin ∧ (placeAwaited m w s).storm = s.storm ∧ (placeAwaited m w s).holdUp = s.holdUp ∧
    (placeAwaited m w s).switch = s.switch ∧ (placeAwaited m w s).sweep = s.sweep ∧ (placeAwaited m w
    s).ports = s.ports ∧ (placeAwaited m w s).ev = s.ev ∧ (placeAwaited m w s).out = s.out := by
  unfold placeAwaited; split <;> simp

@[simp] theorem place_frame (m : Message) :
    (place m s).pending = s.pending ∧ (place m s).roleLine = s.roleLine ∧ (place m s).fieldLine =
    s.fieldLine ∧ (place m s).role = s.role ∧ (place m s).clock = s.clock ∧ (place m s).plan = s.plan ∧
    (place m s).framer = s.framer ∧ (place m s).sup = s.sup ∧ (place m s).radio = s.radio ∧ (place m s).time
    = s.time ∧ (place m s).rejoin = s.rejoin ∧ (place m s).storm = s.storm ∧ (place m s).holdUp = s.holdUp ∧
    (place m s).switch = s.switch ∧ (place m s).sweep = s.sweep ∧ (place m s).ports = s.ports ∧ (place m
    s).ev = s.ev ∧ (place m s).out = s.out := by
  simp [place]

@[simp] theorem emit_frame (r : EgressRecord) :
    (emit r s).pending = s.pending ∧ (emit r s).roleLine = s.roleLine ∧ (emit r s).fieldLine = s.fieldLine ∧
    (emit r s).role = s.role ∧ (emit r s).clock = s.clock ∧ (emit r s).plan = s.plan ∧ (emit r s).disp =
    s.disp ∧ (emit r s).framer = s.framer ∧ (emit r s).sup = s.sup ∧ (emit r s).radio = s.radio ∧ (emit r
    s).time = s.time ∧ (emit r s).rejoin = s.rejoin ∧ (emit r s).storm = s.storm ∧ (emit r s).holdUp =
    s.holdUp ∧ (emit r s).switch = s.switch ∧ (emit r s).sweep = s.sweep ∧ (emit r s).ports = s.ports ∧
    (emit r s).ev = s.ev := by
  simp [emit]

@[simp] theorem sendItem_frame (p : Path) (x : LineItem) :
    (sendItem p x s).pending = s.pending ∧ (sendItem p x s).roleLine = s.roleLine ∧ (sendItem p x
    s).fieldLine = s.fieldLine ∧ (sendItem p x s).role = s.role ∧ (sendItem p x s).clock = s.clock ∧
    (sendItem p x s).plan = s.plan ∧ (sendItem p x s).disp = s.disp ∧ (sendItem p x s).framer = s.framer ∧
    (sendItem p x s).sup = s.sup ∧ (sendItem p x s).radio = s.radio ∧ (sendItem p x s).time = s.time ∧
    (sendItem p x s).rejoin = s.rejoin ∧ (sendItem p x s).storm = s.storm ∧ (sendItem p x s).holdUp =
    s.holdUp ∧ (sendItem p x s).switch = s.switch ∧ (sendItem p x s).sweep = s.sweep ∧ (sendItem p x
    s).ports = s.ports ∧ (sendItem p x s).ev = s.ev := by
  simp [sendItem]

@[simp] theorem changeEvents_frame (f : Events → Events) :
    (changeEvents f s).pending = s.pending ∧ (changeEvents f s).roleLine = s.roleLine ∧ (changeEvents f
    s).fieldLine = s.fieldLine ∧ (changeEvents f s).role = s.role ∧ (changeEvents f s).clock = s.clock ∧
    (changeEvents f s).plan = s.plan ∧ (changeEvents f s).framer = s.framer ∧ (changeEvents f s).sup = s.sup
    ∧ (changeEvents f s).radio = s.radio ∧ (changeEvents f s).time = s.time ∧ (changeEvents f s).rejoin =
    s.rejoin ∧ (changeEvents f s).storm = s.storm ∧ (changeEvents f s).holdUp = s.holdUp ∧ (changeEvents f
    s).switch = s.switch ∧ (changeEvents f s).sweep = s.sweep ∧ (changeEvents f s).ports = s.ports ∧
    (changeEvents f s).out = s.out := by
  unfold changeEvents; split <;> simp

@[simp] theorem raise_frame (k : KindSet) :
    (raise k s).pending = s.pending ∧ (raise k s).roleLine = s.roleLine ∧ (raise k s).fieldLine =
    s.fieldLine ∧ (raise k s).role = s.role ∧ (raise k s).clock = s.clock ∧ (raise k s).plan = s.plan ∧
    (raise k s).framer = s.framer ∧ (raise k s).sup = s.sup ∧ (raise k s).radio = s.radio ∧ (raise k s).time
    = s.time ∧ (raise k s).rejoin = s.rejoin ∧ (raise k s).storm = s.storm ∧ (raise k s).holdUp = s.holdUp ∧
    (raise k s).switch = s.switch ∧ (raise k s).sweep = s.sweep ∧ (raise k s).ports = s.ports ∧ (raise k
    s).out = s.out := by
  simp [raise]

@[simp] theorem raiseFor_frame (r : Requester) (k : KindSet) :
    (raiseFor r k s).pending = s.pending ∧ (raiseFor r k s).roleLine = s.roleLine ∧ (raiseFor r k
    s).fieldLine = s.fieldLine ∧ (raiseFor r k s).role = s.role ∧ (raiseFor r k s).clock = s.clock ∧
    (raiseFor r k s).plan = s.plan ∧ (raiseFor r k s).framer = s.framer ∧ (raiseFor r k s).sup = s.sup ∧
    (raiseFor r k s).radio = s.radio ∧ (raiseFor r k s).time = s.time ∧ (raiseFor r k s).rejoin = s.rejoin ∧
    (raiseFor r k s).storm = s.storm ∧ (raiseFor r k s).holdUp = s.holdUp ∧ (raiseFor r k s).switch =
    s.switch ∧ (raiseFor r k s).sweep = s.sweep ∧ (raiseFor r k s).ports = s.ports ∧ (raiseFor r k s).out =
    s.out := by
  simp [raiseFor]

@[simp] theorem setCond_frame (k : KindSet) (b : Bool) :
    (setCond k b s).pending = s.pending ∧ (setCond k b s).roleLine = s.roleLine ∧ (setCond k b s).fieldLine
    = s.fieldLine ∧ (setCond k b s).role = s.role ∧ (setCond k b s).clock = s.clock ∧ (setCond k b s).plan =
    s.plan ∧ (setCond k b s).framer = s.framer ∧ (setCond k b s).sup = s.sup ∧ (setCond k b s).radio =
    s.radio ∧ (setCond k b s).time = s.time ∧ (setCond k b s).rejoin = s.rejoin ∧ (setCond k b s).storm =
    s.storm ∧ (setCond k b s).holdUp = s.holdUp ∧ (setCond k b s).switch = s.switch ∧ (setCond k b s).sweep
    = s.sweep ∧ (setCond k b s).ports = s.ports ∧ (setCond k b s).out = s.out := by
  unfold setCond; repeat' split
  all_goals simp

@[simp] theorem setState_frame (p : Path) (x : PathState) :
    (setState p x s).pending = s.pending ∧ (setState p x s).roleLine = s.roleLine ∧ (setState p x
    s).fieldLine = s.fieldLine ∧ (setState p x s).role = s.role ∧ (setState p x s).clock = s.clock ∧
    (setState p x s).plan = s.plan ∧ (setState p x s).disp = s.disp ∧ (setState p x s).framer = s.framer ∧
    (setState p x s).radio = s.radio ∧ (setState p x s).time = s.time ∧ (setState p x s).rejoin = s.rejoin ∧
    (setState p x s).storm = s.storm ∧ (setState p x s).holdUp = s.holdUp ∧ (setState p x s).switch =
    s.switch ∧ (setState p x s).sweep = s.sweep ∧ (setState p x s).ports = s.ports ∧ (setState p x s).ev =
    s.ev ∧ (setState p x s).out = s.out := by
  simp [setState]

@[simp] theorem purgeQueue_frame (p : Path) :
    (purgeQueue p s).pending = s.pending ∧ (purgeQueue p s).roleLine = s.roleLine ∧ (purgeQueue p
    s).fieldLine = s.fieldLine ∧ (purgeQueue p s).role = s.role ∧ (purgeQueue p s).clock = s.clock ∧
    (purgeQueue p s).plan = s.plan ∧ (purgeQueue p s).framer = s.framer ∧ (purgeQueue p s).sup = s.sup ∧
    (purgeQueue p s).radio = s.radio ∧ (purgeQueue p s).time = s.time ∧ (purgeQueue p s).rejoin = s.rejoin ∧
    (purgeQueue p s).storm = s.storm ∧ (purgeQueue p s).holdUp = s.holdUp ∧ (purgeQueue p s).switch =
    s.switch ∧ (purgeQueue p s).sweep = s.sweep ∧ (purgeQueue p s).ports = s.ports ∧ (purgeQueue p s).ev =
    s.ev ∧ (purgeQueue p s).out = s.out := by
  simp [purgeQueue]

@[simp] theorem cutTransmit_frame (p : Path) :
    (cutTransmit p s).pending = s.pending ∧ (cutTransmit p s).roleLine = s.roleLine ∧ (cutTransmit p
    s).fieldLine = s.fieldLine ∧ (cutTransmit p s).role = s.role ∧ (cutTransmit p s).clock = s.clock ∧
    (cutTransmit p s).plan = s.plan ∧ (cutTransmit p s).disp = s.disp ∧ (cutTransmit p s).sup = s.sup ∧
    (cutTransmit p s).radio = s.radio ∧ (cutTransmit p s).time = s.time ∧ (cutTransmit p s).rejoin =
    s.rejoin ∧ (cutTransmit p s).storm = s.storm ∧ (cutTransmit p s).holdUp = s.holdUp ∧ (cutTransmit p
    s).switch = s.switch ∧ (cutTransmit p s).sweep = s.sweep ∧ (cutTransmit p s).ports = s.ports ∧
    (cutTransmit p s).ev = s.ev ∧ (cutTransmit p s).out = s.out := by
  simp [cutTransmit]

@[simp] theorem searchAgain_frame (p : Path) :
    (searchAgain p s).pending = s.pending ∧ (searchAgain p s).roleLine = s.roleLine ∧ (searchAgain p
    s).fieldLine = s.fieldLine ∧ (searchAgain p s).role = s.role ∧ (searchAgain p s).clock = s.clock ∧
    (searchAgain p s).plan = s.plan ∧ (searchAgain p s).disp = s.disp ∧ (searchAgain p s).sup = s.sup ∧
    (searchAgain p s).radio = s.radio ∧ (searchAgain p s).time = s.time ∧ (searchAgain p s).rejoin =
    s.rejoin ∧ (searchAgain p s).storm = s.storm ∧ (searchAgain p s).holdUp = s.holdUp ∧ (searchAgain p
    s).switch = s.switch ∧ (searchAgain p s).sweep = s.sweep ∧ (searchAgain p s).ports = s.ports ∧
    (searchAgain p s).ev = s.ev ∧ (searchAgain p s).out = s.out := by
  simp [searchAgain]

@[simp] theorem endSweep_frame (o : SweepOutcome) (b : Bool) (c : CurrentSweep) :
    (endSweep o b c s).pending = s.pending ∧ (endSweep o b c s).roleLine = s.roleLine ∧ (endSweep o b c
    s).fieldLine = s.fieldLine ∧ (endSweep o b c s).role = s.role ∧ (endSweep o b c s).clock = s.clock ∧
    (endSweep o b c s).plan = s.plan ∧ (endSweep o b c s).framer = s.framer ∧ (endSweep o b c s).sup = s.sup
    ∧ (endSweep o b c s).radio = s.radio ∧ (endSweep o b c s).time = s.time ∧ (endSweep o b c s).rejoin =
    s.rejoin ∧ (endSweep o b c s).storm = s.storm ∧ (endSweep o b c s).holdUp = s.holdUp ∧ (endSweep o b c
    s).switch = s.switch ∧ (endSweep o b c s).ports = s.ports ∧ (endSweep o b c s).out = s.out := by
  simp [endSweep]

@[simp] theorem suspendRaw_frame (c : CurrentSweep) :
    (suspendRaw c s).pending = s.pending ∧ (suspendRaw c s).roleLine = s.roleLine ∧ (suspendRaw c
    s).fieldLine = s.fieldLine ∧ (suspendRaw c s).role = s.role ∧ (suspendRaw c s).clock = s.clock ∧
    (suspendRaw c s).plan = s.plan ∧ (suspendRaw c s).framer = s.framer ∧ (suspendRaw c s).radio = s.radio ∧
    (suspendRaw c s).time = s.time ∧ (suspendRaw c s).rejoin = s.rejoin ∧ (suspendRaw c s).storm = s.storm ∧
    (suspendRaw c s).holdUp = s.holdUp ∧ (suspendRaw c s).switch = s.switch ∧ (suspendRaw c s).ports =
    s.ports ∧ (suspendRaw c s).out = s.out := by
  simp [suspendRaw]

@[simp] theorem sweepFollow_frame :
    (sweepFollow s).pending = s.pending ∧ (sweepFollow s).roleLine = s.roleLine ∧ (sweepFollow s).fieldLine
    = s.fieldLine ∧ (sweepFollow s).role = s.role ∧ (sweepFollow s).clock = s.clock ∧ (sweepFollow s).plan =
    s.plan ∧ (sweepFollow s).framer = s.framer ∧ (sweepFollow s).radio = s.radio ∧ (sweepFollow s).time =
    s.time ∧ (sweepFollow s).rejoin = s.rejoin ∧ (sweepFollow s).storm = s.storm ∧ (sweepFollow s).holdUp =
    s.holdUp ∧ (sweepFollow s).switch = s.switch ∧ (sweepFollow s).ports = s.ports ∧ (sweepFollow s).out =
    s.out := by
  unfold sweepFollow; repeat' split
  all_goals simp

@[simp] theorem reselectSource_frame :
    (reselectSource s).pending = s.pending ∧ (reselectSource s).roleLine = s.roleLine ∧ (reselectSource
    s).fieldLine = s.fieldLine ∧ (reselectSource s).role = s.role ∧ (reselectSource s).plan = s.plan ∧
    (reselectSource s).framer = s.framer ∧ (reselectSource s).sup = s.sup ∧ (reselectSource s).radio =
    s.radio ∧ (reselectSource s).rejoin = s.rejoin ∧ (reselectSource s).storm = s.storm ∧ (reselectSource
    s).holdUp = s.holdUp ∧ (reselectSource s).switch = s.switch ∧ (reselectSource s).sweep = s.sweep ∧
    (reselectSource s).ports = s.ports ∧ (reselectSource s).out = s.out := by
  unfold reselectSource; split <;> simp

@[simp] theorem reselectRef_frame :
    (reselectRef s).pending = s.pending ∧ (reselectRef s).roleLine = s.roleLine ∧ (reselectRef s).fieldLine
    = s.fieldLine ∧ (reselectRef s).role = s.role ∧ (reselectRef s).clock = s.clock ∧ (reselectRef s).plan =
    s.plan ∧ (reselectRef s).disp = s.disp ∧ (reselectRef s).framer = s.framer ∧ (reselectRef s).sup = s.sup
    ∧ (reselectRef s).radio = s.radio ∧ (reselectRef s).time = s.time ∧ (reselectRef s).rejoin = s.rejoin ∧
    (reselectRef s).storm = s.storm ∧ (reselectRef s).holdUp = s.holdUp ∧ (reselectRef s).sweep = s.sweep ∧
    (reselectRef s).ports = s.ports ∧ (reselectRef s).ev = s.ev ∧ (reselectRef s).out = s.out := by
  unfold reselectRef; split <;> simp

@[simp] theorem evalDegraded_frame :
    (evalDegraded s).pending = s.pending ∧ (evalDegraded s).roleLine = s.roleLine ∧ (evalDegraded
    s).fieldLine = s.fieldLine ∧ (evalDegraded s).role = s.role ∧ (evalDegraded s).clock = s.clock ∧
    (evalDegraded s).plan = s.plan ∧ (evalDegraded s).framer = s.framer ∧ (evalDegraded s).sup = s.sup ∧
    (evalDegraded s).radio = s.radio ∧ (evalDegraded s).time = s.time ∧ (evalDegraded s).rejoin = s.rejoin ∧
    (evalDegraded s).storm = s.storm ∧ (evalDegraded s).holdUp = s.holdUp ∧ (evalDegraded s).switch =
    s.switch ∧ (evalDegraded s).sweep = s.sweep ∧ (evalDegraded s).ports = s.ports ∧ (evalDegraded s).out =
    s.out := by
  simp [evalDegraded]

@[simp] theorem evalHoldShort_frame :
    (evalHoldShort s).pending = s.pending ∧ (evalHoldShort s).roleLine = s.roleLine ∧ (evalHoldShort
    s).fieldLine = s.fieldLine ∧ (evalHoldShort s).role = s.role ∧ (evalHoldShort s).clock = s.clock ∧
    (evalHoldShort s).plan = s.plan ∧ (evalHoldShort s).framer = s.framer ∧ (evalHoldShort s).sup = s.sup ∧
    (evalHoldShort s).radio = s.radio ∧ (evalHoldShort s).rejoin = s.rejoin ∧ (evalHoldShort s).storm =
    s.storm ∧ (evalHoldShort s).holdUp = s.holdUp ∧ (evalHoldShort s).switch = s.switch ∧ (evalHoldShort
    s).sweep = s.sweep ∧ (evalHoldShort s).ports = s.ports ∧ (evalHoldShort s).out = s.out := by
  simp [evalHoldShort]

@[simp] theorem settle_frame :
    (settle s).pending = s.pending ∧ (settle s).roleLine = s.roleLine ∧ (settle s).fieldLine = s.fieldLine ∧
    (settle s).role = s.role ∧ (settle s).plan = s.plan ∧ (settle s).framer = s.framer ∧ (settle s).radio =
    s.radio ∧ (settle s).rejoin = s.rejoin ∧ (settle s).storm = s.storm ∧ (settle s).holdUp = s.holdUp ∧
    (settle s).ports = s.ports ∧ (settle s).out = s.out := by
  simp [settle]

@[simp] theorem enterOff_frame (p : Path) :
    (enterOff p s).pending = s.pending ∧ (enterOff p s).roleLine = s.roleLine ∧ (enterOff p s).fieldLine =
    s.fieldLine ∧ (enterOff p s).role = s.role ∧ (enterOff p s).clock = s.clock ∧ (enterOff p s).plan =
    s.plan ∧ (enterOff p s).radio = s.radio ∧ (enterOff p s).time = s.time ∧ (enterOff p s).rejoin =
    s.rejoin ∧ (enterOff p s).storm = s.storm ∧ (enterOff p s).holdUp = s.holdUp ∧ (enterOff p s).switch =
    s.switch ∧ (enterOff p s).sweep = s.sweep ∧ (enterOff p s).ports = s.ports ∧ (enterOff p s).ev = s.ev ∧
    (enterOff p s).out = s.out := by
  simp [enterOff]

@[simp] theorem enterAcquire_frame (p : Path) :
    (enterAcquire p s).pending = s.pending ∧ (enterAcquire p s).roleLine = s.roleLine ∧ (enterAcquire p
    s).fieldLine = s.fieldLine ∧ (enterAcquire p s).role = s.role ∧ (enterAcquire p s).clock = s.clock ∧
    (enterAcquire p s).plan = s.plan ∧ (enterAcquire p s).disp = s.disp ∧ (enterAcquire p s).radio = s.radio
    ∧ (enterAcquire p s).time = s.time ∧ (enterAcquire p s).rejoin = s.rejoin ∧ (enterAcquire p s).storm =
    s.storm ∧ (enterAcquire p s).holdUp = s.holdUp ∧ (enterAcquire p s).switch = s.switch ∧ (enterAcquire p
    s).sweep = s.sweep ∧ (enterAcquire p s).ports = s.ports ∧ (enterAcquire p s).ev = s.ev ∧ (enterAcquire p
    s).out = s.out := by
  simp [enterAcquire]

@[simp] theorem followOff_frame (p : Path) :
    (followOff p s).pending = s.pending ∧ (followOff p s).roleLine = s.roleLine ∧ (followOff p s).fieldLine
    = s.fieldLine ∧ (followOff p s).role = s.role ∧ (followOff p s).clock = s.clock ∧ (followOff p s).plan =
    s.plan ∧ (followOff p s).radio = s.radio ∧ (followOff p s).time = s.time ∧ (followOff p s).rejoin =
    s.rejoin ∧ (followOff p s).storm = s.storm ∧ (followOff p s).holdUp = s.holdUp ∧ (followOff p s).switch
    = s.switch ∧ (followOff p s).sweep = s.sweep ∧ (followOff p s).ports = s.ports ∧ (followOff p s).ev =
    s.ev ∧ (followOff p s).out = s.out := by
  unfold followOff; repeat' split
  all_goals simp

@[simp] theorem refreshOff_frame :
    (refreshOff s).pending = s.pending ∧ (refreshOff s).roleLine = s.roleLine ∧ (refreshOff s).fieldLine =
    s.fieldLine ∧ (refreshOff s).role = s.role ∧ (refreshOff s).plan = s.plan ∧ (refreshOff s).radio =
    s.radio ∧ (refreshOff s).rejoin = s.rejoin ∧ (refreshOff s).storm = s.storm ∧ (refreshOff s).holdUp =
    s.holdUp ∧ (refreshOff s).ports = s.ports ∧ (refreshOff s).out = s.out := by
  simp [refreshOff]

@[simp] theorem setMode_frame (m : PowerMode) :
    (setMode m s).pending = s.pending ∧ (setMode m s).roleLine = s.roleLine ∧ (setMode m s).fieldLine =
    s.fieldLine ∧ (setMode m s).role = s.role ∧ (setMode m s).clock = s.clock ∧ (setMode m s).plan = s.plan
    ∧ (setMode m s).framer = s.framer ∧ (setMode m s).sup = s.sup ∧ (setMode m s).time = s.time ∧ (setMode m
    s).rejoin = s.rejoin ∧ (setMode m s).storm = s.storm ∧ (setMode m s).holdUp = s.holdUp ∧ (setMode m
    s).switch = s.switch ∧ (setMode m s).sweep = s.sweep ∧ (setMode m s).ports = s.ports ∧ (setMode m s).out
    = s.out := by
  unfold setMode; split <;> simp

@[simp] theorem startIdle_frame :
    (startIdle s).pending = s.pending ∧ (startIdle s).roleLine = s.roleLine ∧ (startIdle s).fieldLine =
    s.fieldLine ∧ (startIdle s).role = s.role ∧ (startIdle s).clock = s.clock ∧ (startIdle s).plan = s.plan
    ∧ (startIdle s).disp = s.disp ∧ (startIdle s).framer = s.framer ∧ (startIdle s).sup = s.sup ∧ (startIdle
    s).time = s.time ∧ (startIdle s).rejoin = s.rejoin ∧ (startIdle s).storm = s.storm ∧ (startIdle
    s).holdUp = s.holdUp ∧ (startIdle s).switch = s.switch ∧ (startIdle s).sweep = s.sweep ∧ (startIdle
    s).ports = s.ports ∧ (startIdle s).ev = s.ev ∧ (startIdle s).out = s.out := by
  simp [startIdle]

@[simp] theorem startStandby_frame :
    (startStandby s).pending = s.pending ∧ (startStandby s).roleLine = s.roleLine ∧ (startStandby
    s).fieldLine = s.fieldLine ∧ (startStandby s).role = s.role ∧ (startStandby s).clock = s.clock ∧
    (startStandby s).plan = s.plan ∧ (startStandby s).disp = s.disp ∧ (startStandby s).framer = s.framer ∧
    (startStandby s).sup = s.sup ∧ (startStandby s).time = s.time ∧ (startStandby s).rejoin = s.rejoin ∧
    (startStandby s).storm = s.storm ∧ (startStandby s).holdUp = s.holdUp ∧ (startStandby s).switch =
    s.switch ∧ (startStandby s).sweep = s.sweep ∧ (startStandby s).ports = s.ports ∧ (startStandby s).ev =
    s.ev ∧ (startStandby s).out = s.out := by
  simp [startStandby]

@[simp] theorem idleToActive_frame :
    (idleToActive s).pending = s.pending ∧ (idleToActive s).roleLine = s.roleLine ∧ (idleToActive
    s).fieldLine = s.fieldLine ∧ (idleToActive s).role = s.role ∧ (idleToActive s).clock = s.clock ∧
    (idleToActive s).plan = s.plan ∧ (idleToActive s).framer = s.framer ∧ (idleToActive s).sup = s.sup ∧
    (idleToActive s).time = s.time ∧ (idleToActive s).rejoin = s.rejoin ∧ (idleToActive s).storm = s.storm ∧
    (idleToActive s).holdUp = s.holdUp ∧ (idleToActive s).switch = s.switch ∧ (idleToActive s).sweep =
    s.sweep ∧ (idleToActive s).ports = s.ports ∧ (idleToActive s).out = s.out := by
  simp [idleToActive]

@[simp] theorem standbyToWarmup_frame :
    (standbyToWarmup s).pending = s.pending ∧ (standbyToWarmup s).roleLine = s.roleLine ∧ (standbyToWarmup
    s).fieldLine = s.fieldLine ∧ (standbyToWarmup s).role = s.role ∧ (standbyToWarmup s).clock = s.clock ∧
    (standbyToWarmup s).plan = s.plan ∧ (standbyToWarmup s).framer = s.framer ∧ (standbyToWarmup s).sup =
    s.sup ∧ (standbyToWarmup s).time = s.time ∧ (standbyToWarmup s).rejoin = s.rejoin ∧ (standbyToWarmup
    s).storm = s.storm ∧ (standbyToWarmup s).holdUp = s.holdUp ∧ (standbyToWarmup s).switch = s.switch ∧
    (standbyToWarmup s).sweep = s.sweep ∧ (standbyToWarmup s).ports = s.ports ∧ (standbyToWarmup s).out =
    s.out := by
  simp [standbyToWarmup]

@[simp] theorem wakeRequest_frame :
    (wakeRequest s).pending = s.pending ∧ (wakeRequest s).roleLine = s.roleLine ∧ (wakeRequest s).fieldLine
    = s.fieldLine ∧ (wakeRequest s).role = s.role ∧ (wakeRequest s).clock = s.clock ∧ (wakeRequest s).plan =
    s.plan ∧ (wakeRequest s).framer = s.framer ∧ (wakeRequest s).sup = s.sup ∧ (wakeRequest s).time = s.time
    ∧ (wakeRequest s).rejoin = s.rejoin ∧ (wakeRequest s).storm = s.storm ∧ (wakeRequest s).holdUp =
    s.holdUp ∧ (wakeRequest s).switch = s.switch ∧ (wakeRequest s).sweep = s.sweep ∧ (wakeRequest s).ports =
    s.ports ∧ (wakeRequest s).out = s.out := by
  unfold wakeRequest; split <;> simp

@[simp] theorem reportCopy_frame :
    (reportCopy s).pending = s.pending ∧ (reportCopy s).roleLine = s.roleLine ∧ (reportCopy s).fieldLine =
    s.fieldLine ∧ (reportCopy s).role = s.role ∧ (reportCopy s).clock = s.clock ∧ (reportCopy s).plan =
    s.plan ∧ (reportCopy s).framer = s.framer ∧ (reportCopy s).sup = s.sup ∧ (reportCopy s).time = s.time ∧
    (reportCopy s).rejoin = s.rejoin ∧ (reportCopy s).storm = s.storm ∧ (reportCopy s).holdUp = s.holdUp ∧
    (reportCopy s).switch = s.switch ∧ (reportCopy s).sweep = s.sweep ∧ (reportCopy s).ports = s.ports ∧
    (reportCopy s).out = s.out := by
  unfold reportCopy; split <;> simp

@[simp] theorem radioLevel_frame :
    (radioLevel s).pending = s.pending ∧ (radioLevel s).roleLine = s.roleLine ∧ (radioLevel s).fieldLine =
    s.fieldLine ∧ (radioLevel s).role = s.role ∧ (radioLevel s).clock = s.clock ∧ (radioLevel s).plan =
    s.plan ∧ (radioLevel s).framer = s.framer ∧ (radioLevel s).sup = s.sup ∧ (radioLevel s).time = s.time ∧
    (radioLevel s).rejoin = s.rejoin ∧ (radioLevel s).storm = s.storm ∧ (radioLevel s).holdUp = s.holdUp ∧
    (radioLevel s).switch = s.switch ∧ (radioLevel s).sweep = s.sweep ∧ (radioLevel s).ports = s.ports ∧
    (radioLevel s).out = s.out := by
  unfold radioLevel; repeat' split
  all_goals simp

@[simp] theorem reEffective_frame :
    (reEffective s).pending = s.pending ∧ (reEffective s).roleLine = s.roleLine ∧ (reEffective s).fieldLine
    = s.fieldLine ∧ (reEffective s).role = s.role ∧ (reEffective s).plan = s.plan ∧ (reEffective s).framer =
    s.framer ∧ (reEffective s).rejoin = s.rejoin ∧ (reEffective s).holdUp = s.holdUp ∧ (reEffective s).ports
    = s.ports ∧ (reEffective s).out = s.out := by
  unfold reEffective; split <;> simp

@[simp] theorem enterShelter_frame (p : Path) :
    (enterShelter p s).pending = s.pending ∧ (enterShelter p s).roleLine = s.roleLine ∧ (enterShelter p
    s).fieldLine = s.fieldLine ∧ (enterShelter p s).role = s.role ∧ (enterShelter p s).plan = s.plan ∧
    (enterShelter p s).radio = s.radio ∧ (enterShelter p s).rejoin = s.rejoin ∧ (enterShelter p s).storm =
    s.storm ∧ (enterShelter p s).holdUp = s.holdUp ∧ (enterShelter p s).ports = s.ports ∧ (enterShelter p
    s).out = s.out := by
  simp [enterShelter]

@[simp] theorem shelterOrder_frame (p : Path) :
    (shelterOrder p s).pending = s.pending ∧ (shelterOrder p s).roleLine = s.roleLine ∧ (shelterOrder p
    s).fieldLine = s.fieldLine ∧ (shelterOrder p s).role = s.role ∧ (shelterOrder p s).plan = s.plan ∧
    (shelterOrder p s).radio = s.radio ∧ (shelterOrder p s).rejoin = s.rejoin ∧ (shelterOrder p s).holdUp =
    s.holdUp ∧ (shelterOrder p s).ports = s.ports ∧ (shelterOrder p s).out = s.out := by
  unfold shelterOrder; repeat' split
  all_goals simp

@[simp] theorem issueOrders_frame (ps : List Path) :
    (issueOrders ps s).pending = s.pending ∧ (issueOrders ps s).roleLine = s.roleLine ∧ (issueOrders ps
    s).fieldLine = s.fieldLine ∧ (issueOrders ps s).role = s.role ∧ (issueOrders ps s).plan = s.plan ∧
    (issueOrders ps s).radio = s.radio ∧ (issueOrders ps s).rejoin = s.rejoin ∧ (issueOrders ps s).holdUp =
    s.holdUp ∧ (issueOrders ps s).ports = s.ports ∧ (issueOrders ps s).out = s.out := by
  induction ps generalizing s with
  | nil => simp [issueOrders]
  | cons p rest ih => simpa [issueOrders] using ih (shelterOrder p s)

@[simp] theorem drawChoice_frame :
    (drawChoice s).pending = s.pending ∧ (drawChoice s).roleLine = s.roleLine ∧ (drawChoice s).fieldLine =
    s.fieldLine ∧ (drawChoice s).role = s.role ∧ (drawChoice s).clock = s.clock ∧ (drawChoice s).plan = s.plan ∧
    (drawChoice s).disp = s.disp ∧ (drawChoice s).framer = s.framer ∧ (drawChoice s).sup = s.sup ∧ (drawChoice
    s).radio = s.radio ∧ (drawChoice s).time = s.time ∧ (drawChoice s).rejoin = s.rejoin ∧ (drawChoice s).storm =
    s.storm ∧ (drawChoice s).holdUp = s.holdUp ∧ (drawChoice s).switch = s.switch ∧ (drawChoice s).sweep = s.sweep
    ∧ (drawChoice s).ports = s.ports ∧ (drawChoice s).ev = s.ev ∧ (drawChoice s).out = s.out := by
  simp [drawChoice]

@[simp] theorem shelterOrders_frame :
    (shelterOrders s).pending = s.pending ∧ (shelterOrders s).roleLine = s.roleLine ∧ (shelterOrders
    s).fieldLine = s.fieldLine ∧ (shelterOrders s).role = s.role ∧ (shelterOrders s).plan = s.plan ∧
    (shelterOrders s).radio = s.radio ∧ (shelterOrders s).rejoin = s.rejoin ∧ (shelterOrders s).holdUp =
    s.holdUp ∧ (shelterOrders s).ports = s.ports ∧ (shelterOrders s).out = s.out := by
  simp [shelterOrders]

/-- What an entry into STRIKE does, over the number of orders that come ahead of the level change: none where no sweep runs. -/
theorem enterStrike_cases :
    (∃ c, s.sweep.engine = .running c ∧
      enterStrike s =
        issueOrders (orderPaths.drop (Config.ordersAhead s.choices))
          (reEffective (issueOrders (orderPaths.take (Config.ordersAhead s.choices)) (drawChoice s)))) ∨
      ((∀ c, s.sweep.engine ≠ .running c) ∧ enterStrike s = shelterOrders (reEffective s)) := by
  cases h : s.sweep.engine <;> simp [enterStrike, h]

@[simp] theorem enterStrike_frame :
    (enterStrike s).pending = s.pending ∧ (enterStrike s).roleLine = s.roleLine ∧ (enterStrike s).fieldLine =
    s.fieldLine ∧ (enterStrike s).role = s.role ∧ (enterStrike s).plan = s.plan ∧ (enterStrike s).rejoin =
    s.rejoin ∧ (enterStrike s).holdUp = s.holdUp ∧ (enterStrike s).ports = s.ports ∧ (enterStrike s).out = s.out := by
  rcases enterStrike_cases s with ⟨_, _, h⟩ | ⟨_, h⟩ <;> rw [h] <;> simp

@[simp] theorem moveOwn_frame (l : Level) :
    (moveOwn l s).pending = s.pending ∧ (moveOwn l s).roleLine = s.roleLine ∧ (moveOwn l s).fieldLine =
    s.fieldLine ∧ (moveOwn l s).role = s.role ∧ (moveOwn l s).plan = s.plan ∧ (moveOwn l s).rejoin =
    s.rejoin ∧ (moveOwn l s).ports = s.ports ∧ (moveOwn l s).out = s.out := by
  unfold moveOwn; split <;> simp

@[simp] theorem restartStrike_frame :
    (restartStrike s).pending = s.pending ∧ (restartStrike s).roleLine = s.roleLine ∧ (restartStrike
    s).fieldLine = s.fieldLine ∧ (restartStrike s).role = s.role ∧ (restartStrike s).clock = s.clock ∧
    (restartStrike s).plan = s.plan ∧ (restartStrike s).disp = s.disp ∧ (restartStrike s).framer = s.framer
    ∧ (restartStrike s).sup = s.sup ∧ (restartStrike s).radio = s.radio ∧ (restartStrike s).time = s.time ∧
    (restartStrike s).rejoin = s.rejoin ∧ (restartStrike s).holdUp = s.holdUp ∧ (restartStrike s).switch =
    s.switch ∧ (restartStrike s).sweep = s.sweep ∧ (restartStrike s).ports = s.ports ∧ (restartStrike s).ev
    = s.ev ∧ (restartStrike s).out = s.out := by
  simp [restartStrike]

@[simp] theorem takeIndication_frame (k : Strike) :
    (takeIndication k s).pending = s.pending ∧ (takeIndication k s).roleLine = s.roleLine ∧ (takeIndication
    k s).fieldLine = s.fieldLine ∧ (takeIndication k s).role = s.role ∧ (takeIndication k s).plan = s.plan ∧
    (takeIndication k s).rejoin = s.rejoin ∧ (takeIndication k s).ports = s.ports ∧ (takeIndication k s).out
    = s.out := by
  unfold takeIndication; split <;> simp

@[simp] theorem strikeIndication_frame (k : Strike) :
    (strikeIndication k s).pending = s.pending ∧ (strikeIndication k s).roleLine = s.roleLine ∧
    (strikeIndication k s).fieldLine = s.fieldLine ∧ (strikeIndication k s).role = s.role ∧
    (strikeIndication k s).plan = s.plan ∧ (strikeIndication k s).rejoin = s.rejoin ∧ (strikeIndication k
    s).ports = s.ports ∧ (strikeIndication k s).out = s.out := by
  simp [strikeIndication]

@[simp] theorem fieldUp_frame :
    (fieldUp s).pending = s.pending ∧ (fieldUp s).roleLine = s.roleLine ∧ (fieldUp s).fieldLine =
    s.fieldLine ∧ (fieldUp s).role = s.role ∧ (fieldUp s).plan = s.plan ∧ (fieldUp s).rejoin = s.rejoin ∧
    (fieldUp s).ports = s.ports ∧ (fieldUp s).out = s.out := by
  unfold fieldUp; split <;> simp

@[simp] theorem fieldDown_frame :
    (fieldDown s).pending = s.pending ∧ (fieldDown s).roleLine = s.roleLine ∧ (fieldDown s).fieldLine =
    s.fieldLine ∧ (fieldDown s).role = s.role ∧ (fieldDown s).clock = s.clock ∧ (fieldDown s).plan = s.plan
    ∧ (fieldDown s).disp = s.disp ∧ (fieldDown s).framer = s.framer ∧ (fieldDown s).sup = s.sup ∧ (fieldDown
    s).radio = s.radio ∧ (fieldDown s).time = s.time ∧ (fieldDown s).rejoin = s.rejoin ∧ (fieldDown
    s).holdUp = s.holdUp ∧ (fieldDown s).switch = s.switch ∧ (fieldDown s).sweep = s.sweep ∧ (fieldDown
    s).ports = s.ports ∧ (fieldDown s).ev = s.ev ∧ (fieldDown s).out = s.out := by
  unfold fieldDown; split <;> simp

@[simp] theorem takeField_frame :
    (takeField s).pending = s.pending ∧ (takeField s).roleLine = s.roleLine ∧ (takeField s).fieldLine =
    s.fieldLine ∧ (takeField s).role = s.role ∧ (takeField s).plan = s.plan ∧ (takeField s).rejoin =
    s.rejoin ∧ (takeField s).ports = s.ports ∧ (takeField s).out = s.out := by
  unfold takeField; repeat' split
  all_goals simp

@[simp] theorem fieldChanged_frame :
    (fieldChanged s).pending = s.pending ∧ (fieldChanged s).roleLine = s.roleLine ∧ (fieldChanged
    s).fieldLine = s.fieldLine ∧ (fieldChanged s).role = s.role ∧ (fieldChanged s).plan = s.plan ∧
    (fieldChanged s).rejoin = s.rejoin ∧ (fieldChanged s).ports = s.ports ∧ (fieldChanged s).out = s.out := by
  unfold fieldChanged; split <;> simp

@[simp] theorem setPeerParked_frame (b : Bool) :
    (setPeerParked b s).pending = s.pending ∧ (setPeerParked b s).roleLine = s.roleLine ∧ (setPeerParked b
    s).fieldLine = s.fieldLine ∧ (setPeerParked b s).role = s.role ∧ (setPeerParked b s).clock = s.clock ∧
    (setPeerParked b s).plan = s.plan ∧ (setPeerParked b s).framer = s.framer ∧ (setPeerParked b s).sup =
    s.sup ∧ (setPeerParked b s).radio = s.radio ∧ (setPeerParked b s).time = s.time ∧ (setPeerParked b
    s).rejoin = s.rejoin ∧ (setPeerParked b s).holdUp = s.holdUp ∧ (setPeerParked b s).switch = s.switch ∧
    (setPeerParked b s).sweep = s.sweep ∧ (setPeerParked b s).ports = s.ports ∧ (setPeerParked b s).out =
    s.out := by
  simp [setPeerParked]

@[simp] theorem hearPeer_frame (l : Level) (b : Bool) :
    (hearPeer l b s).pending = s.pending ∧ (hearPeer l b s).roleLine = s.roleLine ∧ (hearPeer l b
    s).fieldLine = s.fieldLine ∧ (hearPeer l b s).role = s.role ∧ (hearPeer l b s).plan = s.plan ∧ (hearPeer
    l b s).framer = s.framer ∧ (hearPeer l b s).rejoin = s.rejoin ∧ (hearPeer l b s).holdUp = s.holdUp ∧
    (hearPeer l b s).ports = s.ports ∧ (hearPeer l b s).out = s.out := by
  simp [hearPeer]

@[simp] theorem forgetPeer_frame :
    (forgetPeer s).pending = s.pending ∧ (forgetPeer s).roleLine = s.roleLine ∧ (forgetPeer s).fieldLine =
    s.fieldLine ∧ (forgetPeer s).role = s.role ∧ (forgetPeer s).plan = s.plan ∧ (forgetPeer s).framer =
    s.framer ∧ (forgetPeer s).rejoin = s.rejoin ∧ (forgetPeer s).holdUp = s.holdUp ∧ (forgetPeer s).ports =
    s.ports ∧ (forgetPeer s).out = s.out := by
  simp [forgetPeer]

end Sys2Proof.Machine
end

