-- ==== Sys2Proof/Laws/DispatchFrames.lean ====
section
/-! SUPPORT. What each operation of dispatch and of the transmitting halves leaves unchanged. -/

namespace Sys2Proof.Machine

variable (s : State)

@[simp] theorem rollover_frame :
    (rollover s).pending = s.pending ∧ (rollover s).roleLine = s.roleLine ∧ (rollover s).fieldLine =
    s.fieldLine ∧ (rollover s).role = s.role ∧ (rollover s).plan = s.plan ∧ (rollover s).framer = s.framer ∧
    (rollover s).sup = s.sup ∧ (rollover s).radio = s.radio ∧ (rollover s).time = s.time ∧ (rollover
    s).rejoin = s.rejoin ∧ (rollover s).storm = s.storm ∧ (rollover s).holdUp = s.holdUp ∧ (rollover
    s).switch = s.switch ∧ (rollover s).sweep = s.sweep ∧ (rollover s).ports = s.ports ∧ (rollover s).ev =
    s.ev ∧ (rollover s).out = s.out := by
  unfold rollover; split <;> simp

@[simp] theorem enqueue_frame (p : Path) (c : Copy) :
    (enqueue p c s).pending = s.pending ∧ (enqueue p c s).roleLine = s.roleLine ∧ (enqueue p c s).fieldLine
    = s.fieldLine ∧ (enqueue p c s).role = s.role ∧ (enqueue p c s).clock = s.clock ∧ (enqueue p c s).plan =
    s.plan ∧ (enqueue p c s).framer = s.framer ∧ (enqueue p c s).sup = s.sup ∧ (enqueue p c s).time = s.time
    ∧ (enqueue p c s).rejoin = s.rejoin ∧ (enqueue p c s).storm = s.storm ∧ (enqueue p c s).holdUp =
    s.holdUp ∧ (enqueue p c s).switch = s.switch ∧ (enqueue p c s).sweep = s.sweep ∧ (enqueue p c s).ports =
    s.ports ∧ (enqueue p c s).out = s.out := by
  unfold enqueue; repeat' split
  all_goals simp

@[simp] theorem placeCopies_frame (i : StreamIx) (d : Descriptor) (q : Seq) (o : Nat) (pl : List Byte) (k : Nat) (l : List (Path × Nat)) :
    (placeCopies i d q o pl k l s).pending = s.pending ∧ (placeCopies i d q o pl k l s).roleLine =
    s.roleLine ∧ (placeCopies i d q o pl k l s).fieldLine = s.fieldLine ∧ (placeCopies i d q o pl k l
    s).role = s.role ∧ (placeCopies i d q o pl k l s).clock = s.clock ∧ (placeCopies i d q o pl k l s).plan
    = s.plan ∧ (placeCopies i d q o pl k l s).framer = s.framer ∧ (placeCopies i d q o pl k l s).sup = s.sup
    ∧ (placeCopies i d q o pl k l s).time = s.time ∧ (placeCopies i d q o pl k l s).rejoin = s.rejoin ∧
    (placeCopies i d q o pl k l s).storm = s.storm ∧ (placeCopies i d q o pl k l s).holdUp = s.holdUp ∧
    (placeCopies i d q o pl k l s).switch = s.switch ∧ (placeCopies i d q o pl k l s).sweep = s.sweep ∧
    (placeCopies i d q o pl k l s).ports = s.ports ∧ (placeCopies i d q o pl k l s).out = s.out := by
  induction l generalizing k s with
  | nil => simp [placeCopies]
  | cons x l ih => obtain ⟨p, due⟩ := x; simp [placeCopies, ih]

@[simp] theorem acceptCell_frame (i : StreamIx) (pl : List Byte) (m : DivMode) :
    (acceptCell i pl m s).pending = s.pending ∧ (acceptCell i pl m s).roleLine = s.roleLine ∧ (acceptCell i
    pl m s).fieldLine = s.fieldLine ∧ (acceptCell i pl m s).role = s.role ∧ (acceptCell i pl m s).clock =
    s.clock ∧ (acceptCell i pl m s).plan = s.plan ∧ (acceptCell i pl m s).framer = s.framer ∧ (acceptCell i
    pl m s).sup = s.sup ∧ (acceptCell i pl m s).time = s.time ∧ (acceptCell i pl m s).rejoin = s.rejoin ∧
    (acceptCell i pl m s).storm = s.storm ∧ (acceptCell i pl m s).holdUp = s.holdUp ∧ (acceptCell i pl m
    s).switch = s.switch ∧ (acceptCell i pl m s).sweep = s.sweep ∧ (acceptCell i pl m s).ports = s.ports ∧
    (acceptCell i pl m s).out = s.out := by
  simp [acceptCell]

@[simp] theorem takeIngress_frame (i : StreamIx) (pl : List Byte) :
    (takeIngress i pl s).pending = s.pending ∧ (takeIngress i pl s).roleLine = s.roleLine ∧ (takeIngress i
    pl s).fieldLine = s.fieldLine ∧ (takeIngress i pl s).role = s.role ∧ (takeIngress i pl s).clock =
    s.clock ∧ (takeIngress i pl s).plan = s.plan ∧ (takeIngress i pl s).framer = s.framer ∧ (takeIngress i
    pl s).sup = s.sup ∧ (takeIngress i pl s).time = s.time ∧ (takeIngress i pl s).rejoin = s.rejoin ∧
    (takeIngress i pl s).storm = s.storm ∧ (takeIngress i pl s).holdUp = s.holdUp ∧ (takeIngress i pl
    s).switch = s.switch ∧ (takeIngress i pl s).sweep = s.sweep ∧ (takeIngress i pl s).ports = s.ports ∧
    (takeIngress i pl s).out = s.out := by
  simp only [takeIngress]; repeat' split
  all_goals simp

@[simp] theorem markMoved_frame (w : Awaited) (q : Seq) :
    (markMoved w q s).pending = s.pending ∧ (markMoved w q s).roleLine = s.roleLine ∧ (markMoved w q
    s).fieldLine = s.fieldLine ∧ (markMoved w q s).role = s.role ∧ (markMoved w q s).clock = s.clock ∧
    (markMoved w q s).plan = s.plan ∧ (markMoved w q s).disp = s.disp ∧ (markMoved w q s).framer = s.framer
    ∧ (markMoved w q s).sup = s.sup ∧ (markMoved w q s).radio = s.radio ∧ (markMoved w q s).time = s.time ∧
    (markMoved w q s).rejoin = s.rejoin ∧ (markMoved w q s).holdUp = s.holdUp ∧ (markMoved w q s).switch =
    s.switch ∧ (markMoved w q s).sweep = s.sweep ∧ (markMoved w q s).ev = s.ev ∧ (markMoved w q s).out =
    s.out := by
  unfold markMoved; split <;> simp

@[simp] theorem moveHead_frame :
    (moveHead s).pending = s.pending ∧ (moveHead s).roleLine = s.roleLine ∧ (moveHead s).fieldLine =
    s.fieldLine ∧ (moveHead s).role = s.role ∧ (moveHead s).clock = s.clock ∧ (moveHead s).plan = s.plan ∧
    (moveHead s).framer = s.framer ∧ (moveHead s).sup = s.sup ∧ (moveHead s).time = s.time ∧ (moveHead
    s).rejoin = s.rejoin ∧ (moveHead s).holdUp = s.holdUp ∧ (moveHead s).switch = s.switch ∧ (moveHead
    s).sweep = s.sweep ∧ (moveHead s).out = s.out := by
  unfold moveHead; repeat' split
  all_goals simp

@[simp] theorem sendSlot_frame (p : Path) (c : Cell) :
    (sendSlot p c s).pending = s.pending ∧ (sendSlot p c s).roleLine = s.roleLine ∧ (sendSlot p c
    s).fieldLine = s.fieldLine ∧ (sendSlot p c s).role = s.role ∧ (sendSlot p c s).clock = s.clock ∧
    (sendSlot p c s).plan = s.plan ∧ (sendSlot p c s).disp = s.disp ∧ (sendSlot p c s).sup = s.sup ∧
    (sendSlot p c s).radio = s.radio ∧ (sendSlot p c s).time = s.time ∧ (sendSlot p c s).rejoin = s.rejoin ∧
    (sendSlot p c s).storm = s.storm ∧ (sendSlot p c s).holdUp = s.holdUp ∧ (sendSlot p c s).switch =
    s.switch ∧ (sendSlot p c s).sweep = s.sweep ∧ (sendSlot p c s).ports = s.ports ∧ (sendSlot p c s).ev =
    s.ev := by
  simp [sendSlot]

@[simp] theorem sendCheck_frame (p : Path) :
    (sendCheck p s).pending = s.pending ∧ (sendCheck p s).roleLine = s.roleLine ∧
    (sendCheck p s).fieldLine = s.fieldLine ∧ (sendCheck p s).role = s.role ∧ (sendCheck p s).clock = s.clock ∧
    (sendCheck p s).plan = s.plan ∧ (sendCheck p s).disp = s.disp ∧ (sendCheck p s).sup = s.sup ∧
    (sendCheck p s).radio = s.radio ∧ (sendCheck p s).time = s.time ∧ (sendCheck p s).rejoin = s.rejoin ∧
    (sendCheck p s).storm = s.storm ∧ (sendCheck p s).holdUp = s.holdUp ∧ (sendCheck p s).switch = s.switch ∧
    (sendCheck p s).sweep = s.sweep ∧ (sendCheck p s).ports = s.ports ∧ (sendCheck p s).ev = s.ev := by
  unfold sendCheck; split <;> simp

@[simp] theorem sendChecks_frame :
    (sendChecks s).pending = s.pending ∧ (sendChecks s).roleLine = s.roleLine ∧
    (sendChecks s).fieldLine = s.fieldLine ∧ (sendChecks s).role = s.role ∧ (sendChecks s).clock = s.clock ∧
    (sendChecks s).plan = s.plan ∧ (sendChecks s).disp = s.disp ∧ (sendChecks s).sup = s.sup ∧
    (sendChecks s).radio = s.radio ∧ (sendChecks s).time = s.time ∧ (sendChecks s).rejoin = s.rejoin ∧
    (sendChecks s).storm = s.storm ∧ (sendChecks s).holdUp = s.holdUp ∧ (sendChecks s).switch = s.switch ∧
    (sendChecks s).sweep = s.sweep ∧ (sendChecks s).ports = s.ports ∧ (sendChecks s).ev = s.ev := by
  simp [sendChecks]

/-- Check bytes that are not due do not leave. -/
theorem sendCheck_of_none {s : State} {p : Path} (h : checkDue s p = none) : sendCheck p s = s := by
  simp [sendCheck, h]

/-- With no check bytes owed on any path none leave. -/
theorem sendChecks_of_none {s : State} (h : ∀ p, (s.framer.get p).tx.owed = none) : sendChecks s = s := by
  have d : ∀ p, checkDue s p = none := fun p => by simp [checkDue, h p]
  simp [sendChecks, sendCheck_of_none, d]

@[simp] theorem serveSlot_frame (p : Path) :
    (serveSlot p s).pending = s.pending ∧ (serveSlot p s).roleLine = s.roleLine ∧ (serveSlot p s).fieldLine
    = s.fieldLine ∧ (serveSlot p s).role = s.role ∧ (serveSlot p s).clock = s.clock ∧ (serveSlot p s).plan =
    s.plan ∧ (serveSlot p s).sup = s.sup ∧ (serveSlot p s).radio = s.radio ∧ (serveSlot p s).time = s.time ∧
    (serveSlot p s).rejoin = s.rejoin ∧ (serveSlot p s).storm = s.storm ∧ (serveSlot p s).holdUp = s.holdUp
    ∧ (serveSlot p s).switch = s.switch ∧ (serveSlot p s).sweep = s.sweep ∧ (serveSlot p s).ports = s.ports
    ∧ (serveSlot p s).ev = s.ev := by
  simp only [serveSlot]; repeat' split
  all_goals simp

@[simp] theorem expireQueue_frame (p : Path) :
    (expireQueue p s).pending = s.pending ∧ (expireQueue p s).roleLine = s.roleLine ∧ (expireQueue p
    s).fieldLine = s.fieldLine ∧ (expireQueue p s).role = s.role ∧ (expireQueue p s).clock = s.clock ∧
    (expireQueue p s).plan = s.plan ∧ (expireQueue p s).framer = s.framer ∧ (expireQueue p s).sup = s.sup ∧
    (expireQueue p s).radio = s.radio ∧ (expireQueue p s).time = s.time ∧ (expireQueue p s).rejoin =
    s.rejoin ∧ (expireQueue p s).storm = s.storm ∧ (expireQueue p s).holdUp = s.holdUp ∧ (expireQueue p
    s).switch = s.switch ∧ (expireQueue p s).sweep = s.sweep ∧ (expireQueue p s).ports = s.ports ∧
    (expireQueue p s).ev = s.ev ∧ (expireQueue p s).out = s.out := by
  simp [expireQueue]

@[simp] theorem dispatchSwitch_frame (old new : Plan) :
    (dispatchSwitch old new s).pending = s.pending ∧ (dispatchSwitch old new s).roleLine = s.roleLine ∧
    (dispatchSwitch old new s).fieldLine = s.fieldLine ∧ (dispatchSwitch old new s).role = s.role ∧
    (dispatchSwitch old new s).plan = s.plan ∧ (dispatchSwitch old new s).framer = s.framer ∧
    (dispatchSwitch old new s).sup = s.sup ∧ (dispatchSwitch old new s).radio = s.radio ∧ (dispatchSwitch
    old new s).time = s.time ∧ (dispatchSwitch old new s).rejoin = s.rejoin ∧ (dispatchSwitch old new
    s).storm = s.storm ∧ (dispatchSwitch old new s).holdUp = s.holdUp ∧ (dispatchSwitch old new s).switch =
    s.switch ∧ (dispatchSwitch old new s).sweep = s.sweep ∧ (dispatchSwitch old new s).ports = s.ports ∧
    (dispatchSwitch old new s).ev = s.ev ∧ (dispatchSwitch old new s).out = s.out := by
  simp [dispatchSwitch]

@[simp] theorem sendHeader_frame (p : Path) (h : Header) :
    (sendHeader p h s).pending = s.pending ∧ (sendHeader p h s).roleLine = s.roleLine ∧ (sendHeader p h
    s).fieldLine = s.fieldLine ∧ (sendHeader p h s).role = s.role ∧ (sendHeader p h s).clock = s.clock ∧
    (sendHeader p h s).plan = s.plan ∧ (sendHeader p h s).disp = s.disp ∧ (sendHeader p h s).framer =
    s.framer ∧ (sendHeader p h s).sup = s.sup ∧ (sendHeader p h s).radio = s.radio ∧ (sendHeader p h s).time
    = s.time ∧ (sendHeader p h s).rejoin = s.rejoin ∧ (sendHeader p h s).storm = s.storm ∧ (sendHeader p h
    s).holdUp = s.holdUp ∧ (sendHeader p h s).switch = s.switch ∧ (sendHeader p h s).sweep = s.sweep ∧
    (sendHeader p h s).ports = s.ports ∧ (sendHeader p h s).ev = s.ev := by
  simp [sendHeader]

@[simp] theorem startSuperframe_frame (p : Path) :
    (startSuperframe p s).pending = s.pending ∧ (startSuperframe p s).roleLine = s.roleLine ∧
    (startSuperframe p s).fieldLine = s.fieldLine ∧ (startSuperframe p s).role = s.role ∧ (startSuperframe p
    s).clock = s.clock ∧ (startSuperframe p s).plan = s.plan ∧ (startSuperframe p s).disp = s.disp ∧
    (startSuperframe p s).sup = s.sup ∧ (startSuperframe p s).radio = s.radio ∧ (startSuperframe p s).time =
    s.time ∧ (startSuperframe p s).rejoin = s.rejoin ∧ (startSuperframe p s).storm = s.storm ∧
    (startSuperframe p s).holdUp = s.holdUp ∧ (startSuperframe p s).switch = s.switch ∧ (startSuperframe p
    s).sweep = s.sweep ∧ (startSuperframe p s).ports = s.ports ∧ (startSuperframe p s).ev = s.ev := by
  unfold startSuperframe; repeat' split
  all_goals simp

@[simp] theorem countBlock_frame (p : Path) (b : Bool) (q : Quality) :
    (countBlock p b q s).pending = s.pending ∧ (countBlock p b q s).roleLine = s.roleLine ∧ (countBlock p b
    q s).fieldLine = s.fieldLine ∧ (countBlock p b q s).role = s.role ∧ (countBlock p b q s).clock = s.clock
    ∧ (countBlock p b q s).plan = s.plan ∧ (countBlock p b q s).disp = s.disp ∧ (countBlock p b q s).sup =
    s.sup ∧ (countBlock p b q s).radio = s.radio ∧ (countBlock p b q s).time = s.time ∧ (countBlock p b q
    s).rejoin = s.rejoin ∧ (countBlock p b q s).storm = s.storm ∧ (countBlock p b q s).holdUp = s.holdUp ∧
    (countBlock p b q s).switch = s.switch ∧ (countBlock p b q s).sweep = s.sweep ∧ (countBlock p b q
    s).ports = s.ports ∧ (countBlock p b q s).ev = s.ev ∧ (countBlock p b q s).out = s.out := by
  simp [countBlock]

end Sys2Proof.Machine
end

