-- ==== Sys2Proof/Laws/RejoinFrames.lean ====
section
/-! SUPPORT. What each operation of the rejoin engine leaves unchanged: one lemma per operation. -/

namespace Sys2Proof.Machine

variable (s : State)

@[simp] theorem setWindow_frame (i : StreamIx) (w : Window) :
    (setWindow i w s).pending = s.pending ∧ (setWindow i w s).roleLine = s.roleLine ∧ (setWindow i w
    s).fieldLine = s.fieldLine ∧ (setWindow i w s).role = s.role ∧ (setWindow i w s).clock = s.clock ∧
    (setWindow i w s).plan = s.plan ∧ (setWindow i w s).disp = s.disp ∧ (setWindow i w s).framer = s.framer
    ∧ (setWindow i w s).sup = s.sup ∧ (setWindow i w s).radio = s.radio ∧ (setWindow i w s).time = s.time ∧
    (setWindow i w s).storm = s.storm ∧ (setWindow i w s).holdUp = s.holdUp ∧ (setWindow i w s).switch =
    s.switch ∧ (setWindow i w s).sweep = s.sweep ∧ (setWindow i w s).ports = s.ports ∧ (setWindow i w s).ev
    = s.ev ∧ (setWindow i w s).out = s.out := by
  simp [setWindow]

@[simp] theorem setStore_frame (t : CellStore) :
    (setStore t s).pending = s.pending ∧ (setStore t s).roleLine = s.roleLine ∧ (setStore t s).fieldLine =
    s.fieldLine ∧ (setStore t s).role = s.role ∧ (setStore t s).clock = s.clock ∧ (setStore t s).plan =
    s.plan ∧ (setStore t s).disp = s.disp ∧ (setStore t s).framer = s.framer ∧ (setStore t s).sup = s.sup ∧
    (setStore t s).radio = s.radio ∧ (setStore t s).time = s.time ∧ (setStore t s).storm = s.storm ∧
    (setStore t s).holdUp = s.holdUp ∧ (setStore t s).switch = s.switch ∧ (setStore t s).sweep = s.sweep ∧
    (setStore t s).ports = s.ports ∧ (setStore t s).ev = s.ev ∧ (setStore t s).out = s.out := by
  simp [setStore]

@[simp] theorem countStream_frame (i : StreamIx) (f : StreamCounts → StreamCounts) :
    (countStream i f s).pending = s.pending ∧ (countStream i f s).roleLine = s.roleLine ∧ (countStream i f
    s).fieldLine = s.fieldLine ∧ (countStream i f s).role = s.role ∧ (countStream i f s).clock = s.clock ∧
    (countStream i f s).plan = s.plan ∧ (countStream i f s).disp = s.disp ∧ (countStream i f s).framer =
    s.framer ∧ (countStream i f s).sup = s.sup ∧ (countStream i f s).radio = s.radio ∧ (countStream i f
    s).time = s.time ∧ (countStream i f s).storm = s.storm ∧ (countStream i f s).holdUp = s.holdUp ∧
    (countStream i f s).switch = s.switch ∧ (countStream i f s).sweep = s.sweep ∧ (countStream i f s).ports
    = s.ports ∧ (countStream i f s).ev = s.ev ∧ (countStream i f s).out = s.out := by
  simp [countStream]

@[simp] theorem countArrival_frame (p : Path) (f : ArrivalCounts → ArrivalCounts) :
    (countArrival p f s).pending = s.pending ∧ (countArrival p f s).roleLine = s.roleLine ∧ (countArrival p
    f s).fieldLine = s.fieldLine ∧ (countArrival p f s).role = s.role ∧ (countArrival p f s).clock = s.clock
    ∧ (countArrival p f s).plan = s.plan ∧ (countArrival p f s).disp = s.disp ∧ (countArrival p f s).framer
    = s.framer ∧ (countArrival p f s).sup = s.sup ∧ (countArrival p f s).radio = s.radio ∧ (countArrival p f
    s).time = s.time ∧ (countArrival p f s).storm = s.storm ∧ (countArrival p f s).holdUp = s.holdUp ∧
    (countArrival p f s).switch = s.switch ∧ (countArrival p f s).sweep = s.sweep ∧ (countArrival p f
    s).ports = s.ports ∧ (countArrival p f s).ev = s.ev ∧ (countArrival p f s).out = s.out := by
  simp [countArrival]

@[simp] theorem refreshNext_frame (i : StreamIx) :
    (refreshNext i s).pending = s.pending ∧ (refreshNext i s).roleLine = s.roleLine ∧ (refreshNext i
    s).fieldLine = s.fieldLine ∧ (refreshNext i s).role = s.role ∧ (refreshNext i s).clock = s.clock ∧
    (refreshNext i s).plan = s.plan ∧ (refreshNext i s).disp = s.disp ∧ (refreshNext i s).framer = s.framer
    ∧ (refreshNext i s).sup = s.sup ∧ (refreshNext i s).radio = s.radio ∧ (refreshNext i s).time = s.time ∧
    (refreshNext i s).storm = s.storm ∧ (refreshNext i s).holdUp = s.holdUp ∧ (refreshNext i s).switch =
    s.switch ∧ (refreshNext i s).sweep = s.sweep ∧ (refreshNext i s).ports = s.ports ∧ (refreshNext i s).ev
    = s.ev ∧ (refreshNext i s).out = s.out := by
  unfold refreshNext; split <;> simp

@[simp] theorem emitMarker_frame (i : StreamIx) (r : EgressRecord) :
    (emitMarker i r s).pending = s.pending ∧ (emitMarker i r s).roleLine = s.roleLine ∧ (emitMarker i r
    s).fieldLine = s.fieldLine ∧ (emitMarker i r s).role = s.role ∧ (emitMarker i r s).clock = s.clock ∧
    (emitMarker i r s).plan = s.plan ∧ (emitMarker i r s).disp = s.disp ∧ (emitMarker i r s).framer =
    s.framer ∧ (emitMarker i r s).sup = s.sup ∧ (emitMarker i r s).radio = s.radio ∧ (emitMarker i r s).time
    = s.time ∧ (emitMarker i r s).rejoin = s.rejoin ∧ (emitMarker i r s).storm = s.storm ∧ (emitMarker i r
    s).holdUp = s.holdUp ∧ (emitMarker i r s).switch = s.switch ∧ (emitMarker i r s).sweep = s.sweep ∧
    (emitMarker i r s).ports = s.ports ∧ (emitMarker i r s).ev = s.ev := by
  unfold emitMarker; split <;> simp

@[simp] theorem expel_frame (i : StreamIx) (w : Window) (h : Held) :
    (expel i w h s).pending = s.pending ∧ (expel i w h s).roleLine = s.roleLine ∧ (expel i w h s).fieldLine
    = s.fieldLine ∧ (expel i w h s).role = s.role ∧ (expel i w h s).clock = s.clock ∧ (expel i w h s).plan =
    s.plan ∧ (expel i w h s).disp = s.disp ∧ (expel i w h s).framer = s.framer ∧ (expel i w h s).sup = s.sup
    ∧ (expel i w h s).radio = s.radio ∧ (expel i w h s).time = s.time ∧ (expel i w h s).storm = s.storm ∧
    (expel i w h s).holdUp = s.holdUp ∧ (expel i w h s).switch = s.switch ∧ (expel i w h s).sweep = s.sweep
    ∧ (expel i w h s).ports = s.ports ∧ (expel i w h s).ev = s.ev ∧ (expel i w h s).out = s.out := by
  simp [expel]

@[simp] theorem flushWindow_frame (i : StreamIx) (w : Window) :
    (flushWindow i w s).pending = s.pending ∧ (flushWindow i w s).roleLine = s.roleLine ∧ (flushWindow i w
    s).fieldLine = s.fieldLine ∧ (flushWindow i w s).role = s.role ∧ (flushWindow i w s).clock = s.clock ∧
    (flushWindow i w s).plan = s.plan ∧ (flushWindow i w s).disp = s.disp ∧ (flushWindow i w s).framer =
    s.framer ∧ (flushWindow i w s).sup = s.sup ∧ (flushWindow i w s).radio = s.radio ∧ (flushWindow i w
    s).time = s.time ∧ (flushWindow i w s).storm = s.storm ∧ (flushWindow i w s).holdUp = s.holdUp ∧
    (flushWindow i w s).switch = s.switch ∧ (flushWindow i w s).sweep = s.sweep ∧ (flushWindow i w s).ports
    = s.ports ∧ (flushWindow i w s).ev = s.ev ∧ (flushWindow i w s).out = s.out := by
  simp [flushWindow]

@[simp] theorem flushStream_frame (i : StreamIx) (x : FlushReason) :
    (flushStream i x s).pending = s.pending ∧ (flushStream i x s).roleLine = s.roleLine ∧ (flushStream i x
    s).fieldLine = s.fieldLine ∧ (flushStream i x s).role = s.role ∧ (flushStream i x s).clock = s.clock ∧
    (flushStream i x s).plan = s.plan ∧ (flushStream i x s).disp = s.disp ∧ (flushStream i x s).framer =
    s.framer ∧ (flushStream i x s).sup = s.sup ∧ (flushStream i x s).radio = s.radio ∧ (flushStream i x
    s).time = s.time ∧ (flushStream i x s).storm = s.storm ∧ (flushStream i x s).holdUp = s.holdUp ∧
    (flushStream i x s).switch = s.switch ∧ (flushStream i x s).sweep = s.sweep ∧ (flushStream i x s).ports
    = s.ports ∧ (flushStream i x s).ev = s.ev := by
  unfold flushStream; split <;> simp

@[simp] theorem countLate_frame (c : Taken) :
    (countLate c s).pending = s.pending ∧ (countLate c s).roleLine = s.roleLine ∧ (countLate c s).fieldLine
    = s.fieldLine ∧ (countLate c s).role = s.role ∧ (countLate c s).clock = s.clock ∧ (countLate c s).plan =
    s.plan ∧ (countLate c s).disp = s.disp ∧ (countLate c s).framer = s.framer ∧ (countLate c s).sup = s.sup
    ∧ (countLate c s).radio = s.radio ∧ (countLate c s).time = s.time ∧ (countLate c s).storm = s.storm ∧
    (countLate c s).holdUp = s.holdUp ∧ (countLate c s).switch = s.switch ∧ (countLate c s).sweep = s.sweep
    ∧ (countLate c s).ports = s.ports ∧ (countLate c s).ev = s.ev ∧ (countLate c s).out = s.out := by
  simp [countLate]

@[simp] theorem countEarly_frame (c : Taken) :
    (countEarly c s).pending = s.pending ∧ (countEarly c s).roleLine = s.roleLine ∧ (countEarly c
    s).fieldLine = s.fieldLine ∧ (countEarly c s).role = s.role ∧ (countEarly c s).clock = s.clock ∧
    (countEarly c s).plan = s.plan ∧ (countEarly c s).disp = s.disp ∧ (countEarly c s).framer = s.framer ∧
    (countEarly c s).sup = s.sup ∧ (countEarly c s).radio = s.radio ∧ (countEarly c s).time = s.time ∧
    (countEarly c s).storm = s.storm ∧ (countEarly c s).holdUp = s.holdUp ∧ (countEarly c s).switch =
    s.switch ∧ (countEarly c s).sweep = s.sweep ∧ (countEarly c s).ports = s.ports ∧ (countEarly c s).ev =
    s.ev ∧ (countEarly c s).out = s.out := by
  simp [countEarly]

@[simp] theorem anchor_frame (w : Window) (c : Taken) :
    (anchor w c s).pending = s.pending ∧ (anchor w c s).roleLine = s.roleLine ∧ (anchor w c s).fieldLine =
    s.fieldLine ∧ (anchor w c s).role = s.role ∧ (anchor w c s).clock = s.clock ∧ (anchor w c s).plan =
    s.plan ∧ (anchor w c s).disp = s.disp ∧ (anchor w c s).framer = s.framer ∧ (anchor w c s).sup = s.sup ∧
    (anchor w c s).radio = s.radio ∧ (anchor w c s).time = s.time ∧ (anchor w c s).storm = s.storm ∧ (anchor
    w c s).holdUp = s.holdUp ∧ (anchor w c s).switch = s.switch ∧ (anchor w c s).sweep = s.sweep ∧ (anchor w
    c s).ports = s.ports ∧ (anchor w c s).ev = s.ev ∧ (anchor w c s).out = s.out := by
  simp [anchor]

@[simp] theorem takeUnanchored_frame (w : Window) (c : Taken) :
    (takeUnanchored w c s).pending = s.pending ∧ (takeUnanchored w c s).roleLine = s.roleLine ∧
    (takeUnanchored w c s).fieldLine = s.fieldLine ∧ (takeUnanchored w c s).role = s.role ∧ (takeUnanchored
    w c s).clock = s.clock ∧ (takeUnanchored w c s).plan = s.plan ∧ (takeUnanchored w c s).disp = s.disp ∧
    (takeUnanchored w c s).framer = s.framer ∧ (takeUnanchored w c s).sup = s.sup ∧ (takeUnanchored w c
    s).radio = s.radio ∧ (takeUnanchored w c s).time = s.time ∧ (takeUnanchored w c s).storm = s.storm ∧
    (takeUnanchored w c s).holdUp = s.holdUp ∧ (takeUnanchored w c s).switch = s.switch ∧ (takeUnanchored w
    c s).sweep = s.sweep ∧ (takeUnanchored w c s).ports = s.ports ∧ (takeUnanchored w c s).ev = s.ev ∧
    (takeUnanchored w c s).out = s.out := by
  unfold takeUnanchored; repeat' split
  all_goals simp

@[simp] theorem resyncWith_frame (w : Window) (c : Taken) :
    (resyncWith w c s).pending = s.pending ∧ (resyncWith w c s).roleLine = s.roleLine ∧ (resyncWith w c
    s).fieldLine = s.fieldLine ∧ (resyncWith w c s).role = s.role ∧ (resyncWith w c s).clock = s.clock ∧
    (resyncWith w c s).plan = s.plan ∧ (resyncWith w c s).framer = s.framer ∧ (resyncWith w c s).sup = s.sup
    ∧ (resyncWith w c s).radio = s.radio ∧ (resyncWith w c s).time = s.time ∧ (resyncWith w c s).storm =
    s.storm ∧ (resyncWith w c s).holdUp = s.holdUp ∧ (resyncWith w c s).switch = s.switch ∧ (resyncWith w c
    s).sweep = s.sweep ∧ (resyncWith w c s).ports = s.ports := by
  simp only [resyncWith]; repeat' split
  all_goals simp

@[simp] theorem takeStray_frame (w : Window) (c : Taken) :
    (takeStray w c s).pending = s.pending ∧ (takeStray w c s).roleLine = s.roleLine ∧ (takeStray w c
    s).fieldLine = s.fieldLine ∧ (takeStray w c s).role = s.role ∧ (takeStray w c s).clock = s.clock ∧
    (takeStray w c s).plan = s.plan ∧ (takeStray w c s).framer = s.framer ∧ (takeStray w c s).sup = s.sup ∧
    (takeStray w c s).radio = s.radio ∧ (takeStray w c s).time = s.time ∧ (takeStray w c s).storm = s.storm
    ∧ (takeStray w c s).holdUp = s.holdUp ∧ (takeStray w c s).switch = s.switch ∧ (takeStray w c s).sweep =
    s.sweep ∧ (takeStray w c s).ports = s.ports := by
  unfold takeStray; split <;> simp

@[simp] theorem countStale_frame (c : Taken) :
    (countStale c s).pending = s.pending ∧ (countStale c s).roleLine = s.roleLine ∧ (countStale c
    s).fieldLine = s.fieldLine ∧ (countStale c s).role = s.role ∧ (countStale c s).clock = s.clock ∧
    (countStale c s).plan = s.plan ∧ (countStale c s).disp = s.disp ∧ (countStale c s).framer = s.framer ∧
    (countStale c s).sup = s.sup ∧ (countStale c s).radio = s.radio ∧ (countStale c s).time = s.time ∧
    (countStale c s).storm = s.storm ∧ (countStale c s).holdUp = s.holdUp ∧ (countStale c s).switch =
    s.switch ∧ (countStale c s).sweep = s.sweep ∧ (countStale c s).ports = s.ports ∧ (countStale c s).ev =
    s.ev ∧ (countStale c s).out = s.out := by
  simp [countStale]

@[simp] theorem holdCopy_frame (w : Window) (c : Taken) :
    (holdCopy w c s).pending = s.pending ∧ (holdCopy w c s).roleLine = s.roleLine ∧ (holdCopy w c
    s).fieldLine = s.fieldLine ∧ (holdCopy w c s).role = s.role ∧ (holdCopy w c s).clock = s.clock ∧
    (holdCopy w c s).plan = s.plan ∧ (holdCopy w c s).disp = s.disp ∧ (holdCopy w c s).framer = s.framer ∧
    (holdCopy w c s).sup = s.sup ∧ (holdCopy w c s).radio = s.radio ∧ (holdCopy w c s).time = s.time ∧
    (holdCopy w c s).storm = s.storm ∧ (holdCopy w c s).holdUp = s.holdUp ∧ (holdCopy w c s).switch =
    s.switch ∧ (holdCopy w c s).sweep = s.sweep ∧ (holdCopy w c s).ports = s.ports ∧ (holdCopy w c s).ev =
    s.ev ∧ (holdCopy w c s).out = s.out := by
  simp [holdCopy]

@[simp] theorem upgrade_frame (w : Window) (h : Held) (c : Taken) :
    (upgrade w h c s).pending = s.pending ∧ (upgrade w h c s).roleLine = s.roleLine ∧ (upgrade w h c
    s).fieldLine = s.fieldLine ∧ (upgrade w h c s).role = s.role ∧ (upgrade w h c s).clock = s.clock ∧
    (upgrade w h c s).plan = s.plan ∧ (upgrade w h c s).disp = s.disp ∧ (upgrade w h c s).framer = s.framer
    ∧ (upgrade w h c s).sup = s.sup ∧ (upgrade w h c s).radio = s.radio ∧ (upgrade w h c s).time = s.time ∧
    (upgrade w h c s).storm = s.storm ∧ (upgrade w h c s).holdUp = s.holdUp ∧ (upgrade w h c s).switch =
    s.switch ∧ (upgrade w h c s).sweep = s.sweep ∧ (upgrade w h c s).ports = s.ports ∧ (upgrade w h c s).ev
    = s.ev ∧ (upgrade w h c s).out = s.out := by
  simp [upgrade]

@[simp] theorem countDuplicate_frame (c : Taken) :
    (countDuplicate c s).pending = s.pending ∧ (countDuplicate c s).roleLine = s.roleLine ∧ (countDuplicate
    c s).fieldLine = s.fieldLine ∧ (countDuplicate c s).role = s.role ∧ (countDuplicate c s).clock = s.clock
    ∧ (countDuplicate c s).plan = s.plan ∧ (countDuplicate c s).disp = s.disp ∧ (countDuplicate c s).framer
    = s.framer ∧ (countDuplicate c s).sup = s.sup ∧ (countDuplicate c s).radio = s.radio ∧ (countDuplicate c
    s).time = s.time ∧ (countDuplicate c s).storm = s.storm ∧ (countDuplicate c s).holdUp = s.holdUp ∧
    (countDuplicate c s).switch = s.switch ∧ (countDuplicate c s).sweep = s.sweep ∧ (countDuplicate c
    s).ports = s.ports ∧ (countDuplicate c s).ev = s.ev ∧ (countDuplicate c s).out = s.out := by
  simp [countDuplicate]

@[simp] theorem takeInSlot_frame (w : Window) (c : Taken) :
    (takeInSlot w c s).pending = s.pending ∧ (takeInSlot w c s).roleLine = s.roleLine ∧ (takeInSlot w
    c s).fieldLine = s.fieldLine ∧ (takeInSlot w c s).role = s.role ∧ (takeInSlot w c s).clock = s.clock
    ∧ (takeInSlot w c s).plan = s.plan ∧ (takeInSlot w c s).disp = s.disp ∧ (takeInSlot w c s).framer
    = s.framer ∧ (takeInSlot w c s).sup = s.sup ∧ (takeInSlot w c s).radio = s.radio ∧ (takeInSlot w c
    s).time = s.time ∧ (takeInSlot w c s).storm = s.storm ∧ (takeInSlot w c s).holdUp = s.holdUp ∧
    (takeInSlot w c s).switch = s.switch ∧ (takeInSlot w c s).sweep = s.sweep ∧ (takeInSlot w c
    s).ports = s.ports ∧ (takeInSlot w c s).ev = s.ev ∧ (takeInSlot w c s).out = s.out := by
  unfold takeInSlot; repeat' split
  all_goals simp

@[simp] theorem takeInWindow_frame (w : Window) (c : Taken) :
    (takeInWindow w c s).pending = s.pending ∧ (takeInWindow w c s).roleLine = s.roleLine ∧ (takeInWindow w
    c s).fieldLine = s.fieldLine ∧ (takeInWindow w c s).role = s.role ∧ (takeInWindow w c s).clock = s.clock
    ∧ (takeInWindow w c s).plan = s.plan ∧ (takeInWindow w c s).disp = s.disp ∧ (takeInWindow w c s).framer
    = s.framer ∧ (takeInWindow w c s).sup = s.sup ∧ (takeInWindow w c s).radio = s.radio ∧ (takeInWindow w c
    s).time = s.time ∧ (takeInWindow w c s).storm = s.storm ∧ (takeInWindow w c s).holdUp = s.holdUp ∧
    (takeInWindow w c s).switch = s.switch ∧ (takeInWindow w c s).sweep = s.sweep ∧ (takeInWindow w c
    s).ports = s.ports ∧ (takeInWindow w c s).ev = s.ev ∧ (takeInWindow w c s).out = s.out := by
  simp only [takeInWindow]; repeat' split
  all_goals simp

@[simp] theorem takeAnchored_frame (w : Window) (c : Taken) :
    (takeAnchored w c s).pending = s.pending ∧ (takeAnchored w c s).roleLine = s.roleLine ∧ (takeAnchored w
    c s).fieldLine = s.fieldLine ∧ (takeAnchored w c s).role = s.role ∧ (takeAnchored w c s).clock = s.clock
    ∧ (takeAnchored w c s).plan = s.plan ∧ (takeAnchored w c s).framer = s.framer ∧ (takeAnchored w c s).sup
    = s.sup ∧ (takeAnchored w c s).radio = s.radio ∧ (takeAnchored w c s).time = s.time ∧ (takeAnchored w c
    s).storm = s.storm ∧ (takeAnchored w c s).holdUp = s.holdUp ∧ (takeAnchored w c s).switch = s.switch ∧
    (takeAnchored w c s).sweep = s.sweep ∧ (takeAnchored w c s).ports = s.ports := by
  unfold takeAnchored; repeat' split
  all_goals simp

@[simp] theorem takeCopy_frame (c : Taken) :
    (takeCopy c s).pending = s.pending ∧ (takeCopy c s).roleLine = s.roleLine ∧ (takeCopy c s).fieldLine =
    s.fieldLine ∧ (takeCopy c s).role = s.role ∧ (takeCopy c s).clock = s.clock ∧ (takeCopy c s).plan =
    s.plan ∧ (takeCopy c s).framer = s.framer ∧ (takeCopy c s).sup = s.sup ∧ (takeCopy c s).radio = s.radio
    ∧ (takeCopy c s).time = s.time ∧ (takeCopy c s).storm = s.storm ∧ (takeCopy c s).holdUp = s.holdUp ∧
    (takeCopy c s).switch = s.switch ∧ (takeCopy c s).sweep = s.sweep ∧ (takeCopy c s).ports = s.ports := by
  unfold takeCopy; repeat' split
  all_goals simp

@[simp] theorem declareGap_frame (i : StreamIx) (w : Window) (h : Held) :
    (declareGap i w h s).pending = s.pending ∧ (declareGap i w h s).roleLine = s.roleLine ∧ (declareGap i w
    h s).fieldLine = s.fieldLine ∧ (declareGap i w h s).role = s.role ∧ (declareGap i w h s).clock = s.clock
    ∧ (declareGap i w h s).plan = s.plan ∧ (declareGap i w h s).framer = s.framer ∧ (declareGap i w h s).sup
    = s.sup ∧ (declareGap i w h s).radio = s.radio ∧ (declareGap i w h s).time = s.time ∧ (declareGap i w h
    s).storm = s.storm ∧ (declareGap i w h s).holdUp = s.holdUp ∧ (declareGap i w h s).switch = s.switch ∧
    (declareGap i w h s).sweep = s.sweep ∧ (declareGap i w h s).ports = s.ports := by
  unfold declareGap; split <;> simp

@[simp] theorem vacate_frame (i : StreamIx) (w : Window) (h : Held) :
    (vacate i w h s).pending = s.pending ∧ (vacate i w h s).roleLine = s.roleLine ∧ (vacate i w h
    s).fieldLine = s.fieldLine ∧ (vacate i w h s).role = s.role ∧ (vacate i w h s).clock = s.clock ∧ (vacate
    i w h s).plan = s.plan ∧ (vacate i w h s).disp = s.disp ∧ (vacate i w h s).framer = s.framer ∧ (vacate i
    w h s).sup = s.sup ∧ (vacate i w h s).radio = s.radio ∧ (vacate i w h s).time = s.time ∧ (vacate i w h
    s).storm = s.storm ∧ (vacate i w h s).holdUp = s.holdUp ∧ (vacate i w h s).switch = s.switch ∧ (vacate i
    w h s).sweep = s.sweep ∧ (vacate i w h s).ports = s.ports ∧ (vacate i w h s).ev = s.ev ∧ (vacate i w h
    s).out = s.out := by
  simp [vacate]

end Sys2Proof.Machine
end

