-- ==== Sys2Proof/Laws/RejoinFrames2.lean ====
section
/-! SUPPORT. What the loops of the rejoin engine leave unchanged: overdue cells, releases, flushes, the re-layout. -/

namespace Sys2Proof.Machine

variable (s : State)

@[simp] theorem expelOverdue_frame (i : StreamIx) (n : Nat) :
    (expelOverdue i n s).pending = s.pending ∧ (expelOverdue i n s).roleLine = s.roleLine ∧ (expelOverdue i
    n s).fieldLine = s.fieldLine ∧ (expelOverdue i n s).role = s.role ∧ (expelOverdue i n s).clock = s.clock
    ∧ (expelOverdue i n s).plan = s.plan ∧ (expelOverdue i n s).disp = s.disp ∧ (expelOverdue i n s).framer
    = s.framer ∧ (expelOverdue i n s).sup = s.sup ∧ (expelOverdue i n s).radio = s.radio ∧ (expelOverdue i n
    s).time = s.time ∧ (expelOverdue i n s).storm = s.storm ∧ (expelOverdue i n s).holdUp = s.holdUp ∧
    (expelOverdue i n s).switch = s.switch ∧ (expelOverdue i n s).sweep = s.sweep ∧ (expelOverdue i n
    s).ports = s.ports ∧ (expelOverdue i n s).ev = s.ev ∧ (expelOverdue i n s).out = s.out := by
  induction n generalizing s with
  | zero => simp [expelOverdue]
  | succ n ih =>
    unfold expelOverdue; repeat' split
    all_goals simp [ih]

@[simp] theorem afterLowest_frame (i : StreamIx) :
    (afterLowest i s).pending = s.pending ∧ (afterLowest i s).roleLine = s.roleLine ∧ (afterLowest i
    s).fieldLine = s.fieldLine ∧ (afterLowest i s).role = s.role ∧ (afterLowest i s).clock = s.clock ∧
    (afterLowest i s).plan = s.plan ∧ (afterLowest i s).disp = s.disp ∧ (afterLowest i s).framer = s.framer
    ∧ (afterLowest i s).sup = s.sup ∧ (afterLowest i s).radio = s.radio ∧ (afterLowest i s).time = s.time ∧
    (afterLowest i s).storm = s.storm ∧ (afterLowest i s).holdUp = s.holdUp ∧ (afterLowest i s).switch =
    s.switch ∧ (afterLowest i s).sweep = s.sweep ∧ (afterLowest i s).ports = s.ports ∧ (afterLowest i s).ev
    = s.ev ∧ (afterLowest i s).out = s.out := by
  simp [afterLowest]

@[simp] theorem releaseCell_frame (i : StreamIx) (w : Window) (h : Held) :
    (releaseCell i w h s).pending = s.pending ∧ (releaseCell i w h s).roleLine = s.roleLine ∧ (releaseCell i
    w h s).fieldLine = s.fieldLine ∧ (releaseCell i w h s).role = s.role ∧ (releaseCell i w h s).clock =
    s.clock ∧ (releaseCell i w h s).plan = s.plan ∧ (releaseCell i w h s).framer = s.framer ∧ (releaseCell i
    w h s).sup = s.sup ∧ (releaseCell i w h s).radio = s.radio ∧ (releaseCell i w h s).time = s.time ∧
    (releaseCell i w h s).storm = s.storm ∧ (releaseCell i w h s).holdUp = s.holdUp ∧ (releaseCell i w h
    s).switch = s.switch ∧ (releaseCell i w h s).sweep = s.sweep ∧ (releaseCell i w h s).ports = s.ports := by
  simp [releaseCell]

@[simp] theorem relayoutOne_frame (old new : Plan) (i : StreamIx) :
    (relayoutOne old new i s).pending = s.pending ∧ (relayoutOne old new i s).roleLine = s.roleLine ∧
    (relayoutOne old new i s).fieldLine = s.fieldLine ∧ (relayoutOne old new i s).role = s.role ∧
    (relayoutOne old new i s).clock = s.clock ∧ (relayoutOne old new i s).plan = s.plan ∧ (relayoutOne old
    new i s).disp = s.disp ∧ (relayoutOne old new i s).framer = s.framer ∧ (relayoutOne old new i s).sup =
    s.sup ∧ (relayoutOne old new i s).radio = s.radio ∧ (relayoutOne old new i s).time = s.time ∧
    (relayoutOne old new i s).storm = s.storm ∧ (relayoutOne old new i s).holdUp = s.holdUp ∧ (relayoutOne
    old new i s).switch = s.switch ∧ (relayoutOne old new i s).sweep = s.sweep ∧ (relayoutOne old new i
    s).ports = s.ports ∧ (relayoutOne old new i s).ev = s.ev := by
  simp only [relayoutOne]; repeat' split
  all_goals simp

@[simp] theorem relayout_frame (old new : Plan) :
    (relayout old new s).pending = s.pending ∧ (relayout old new s).roleLine = s.roleLine ∧ (relayout old
    new s).fieldLine = s.fieldLine ∧ (relayout old new s).role = s.role ∧ (relayout old new s).clock =
    s.clock ∧ (relayout old new s).plan = s.plan ∧ (relayout old new s).disp = s.disp ∧ (relayout old new
    s).framer = s.framer ∧ (relayout old new s).sup = s.sup ∧ (relayout old new s).radio = s.radio ∧
    (relayout old new s).time = s.time ∧ (relayout old new s).storm = s.storm ∧ (relayout old new s).holdUp
    = s.holdUp ∧ (relayout old new s).switch = s.switch ∧ (relayout old new s).sweep = s.sweep ∧ (relayout
    old new s).ports = s.ports ∧ (relayout old new s).ev = s.ev := by
  have h : ∀ (l : List StreamIx) (t : State),
      (l.foldl (fun t i => relayoutOne old new i t) t).pending = t.pending ∧ (l.foldl (fun t i =>
      relayoutOne old new i t) t).roleLine = t.roleLine ∧ (l.foldl (fun t i => relayoutOne old new i t)
      t).fieldLine = t.fieldLine ∧ (l.foldl (fun t i => relayoutOne old new i t) t).role = t.role ∧
      (l.foldl (fun t i => relayoutOne old new i t) t).clock = t.clock ∧ (l.foldl (fun t i => relayoutOne
      old new i t) t).plan = t.plan ∧ (l.foldl (fun t i => relayoutOne old new i t) t).disp = t.disp ∧
      (l.foldl (fun t i => relayoutOne old new i t) t).framer = t.framer ∧ (l.foldl (fun t i =>
      relayoutOne old new i t) t).sup = t.sup ∧ (l.foldl (fun t i => relayoutOne old new i t) t).radio =
      t.radio ∧ (l.foldl (fun t i => relayoutOne old new i t) t).time = t.time ∧ (l.foldl (fun t i =>
      relayoutOne old new i t) t).storm = t.storm ∧ (l.foldl (fun t i => relayoutOne old new i t)
      t).holdUp = t.holdUp ∧ (l.foldl (fun t i => relayoutOne old new i t) t).switch = t.switch ∧ (l.foldl
      (fun t i => relayoutOne old new i t) t).sweep = t.sweep ∧ (l.foldl (fun t i => relayoutOne old new i
      t) t).ports = t.ports ∧ (l.foldl (fun t i => relayoutOne old new i t) t).ev = t.ev := by
    intro l
    induction l with
    | nil => simp
    | cons x l ih => intro t; simp [ih]
  have g : ∀ (l : List StreamIx) (t : State),
      (l.foldl (fun t i => afterLowest i t) t).pending = t.pending ∧ (l.foldl (fun t i => afterLowest i t)
      t).roleLine = t.roleLine ∧ (l.foldl (fun t i => afterLowest i t) t).fieldLine = t.fieldLine ∧
      (l.foldl (fun t i => afterLowest i t) t).role = t.role ∧ (l.foldl (fun t i => afterLowest i t)
      t).clock = t.clock ∧ (l.foldl (fun t i => afterLowest i t) t).plan = t.plan ∧ (l.foldl (fun t i =>
      afterLowest i t) t).disp = t.disp ∧ (l.foldl (fun t i => afterLowest i t) t).framer = t.framer ∧
      (l.foldl (fun t i => afterLowest i t) t).sup = t.sup ∧ (l.foldl (fun t i => afterLowest i t)
      t).radio = t.radio ∧ (l.foldl (fun t i => afterLowest i t) t).time = t.time ∧ (l.foldl (fun t i =>
      afterLowest i t) t).storm = t.storm ∧ (l.foldl (fun t i => afterLowest i t) t).holdUp = t.holdUp ∧
      (l.foldl (fun t i => afterLowest i t) t).switch = t.switch ∧ (l.foldl (fun t i => afterLowest i t)
      t).sweep = t.sweep ∧ (l.foldl (fun t i => afterLowest i t) t).ports = t.ports ∧ (l.foldl (fun t i =>
      afterLowest i t) t).ev = t.ev := by
    intro l
    induction l with
    | nil => simp
    | cons x l ih => intro t; simp [ih]
  simp [relayout, h, g]

@[simp] theorem flushAll_frame (x : FlushReason) :
    (flushAll x s).pending = s.pending ∧ (flushAll x s).roleLine = s.roleLine ∧ (flushAll x s).fieldLine =
    s.fieldLine ∧ (flushAll x s).role = s.role ∧ (flushAll x s).clock = s.clock ∧ (flushAll x s).plan =
    s.plan ∧ (flushAll x s).disp = s.disp ∧ (flushAll x s).framer = s.framer ∧ (flushAll x s).sup = s.sup ∧
    (flushAll x s).radio = s.radio ∧ (flushAll x s).time = s.time ∧ (flushAll x s).storm = s.storm ∧
    (flushAll x s).holdUp = s.holdUp ∧ (flushAll x s).switch = s.switch ∧ (flushAll x s).sweep = s.sweep ∧
    (flushAll x s).ports = s.ports ∧ (flushAll x s).ev = s.ev := by
  have h : ∀ (l : List StreamIx) (t : State),
      (l.foldl (fun t i => flushStream i x t) t).pending = t.pending ∧ (l.foldl (fun t i => flushStream i
      x t) t).roleLine = t.roleLine ∧ (l.foldl (fun t i => flushStream i x t) t).fieldLine = t.fieldLine ∧
      (l.foldl (fun t i => flushStream i x t) t).role = t.role ∧ (l.foldl (fun t i => flushStream i x t)
      t).clock = t.clock ∧ (l.foldl (fun t i => flushStream i x t) t).plan = t.plan ∧ (l.foldl (fun t i =>
      flushStream i x t) t).disp = t.disp ∧ (l.foldl (fun t i => flushStream i x t) t).framer = t.framer ∧
      (l.foldl (fun t i => flushStream i x t) t).sup = t.sup ∧ (l.foldl (fun t i => flushStream i x t)
      t).radio = t.radio ∧ (l.foldl (fun t i => flushStream i x t) t).time = t.time ∧ (l.foldl (fun t i =>
      flushStream i x t) t).storm = t.storm ∧ (l.foldl (fun t i => flushStream i x t) t).holdUp = t.holdUp
      ∧ (l.foldl (fun t i => flushStream i x t) t).switch = t.switch ∧ (l.foldl (fun t i => flushStream i
      x t) t).sweep = t.sweep ∧ (l.foldl (fun t i => flushStream i x t) t).ports = t.ports ∧ (l.foldl (fun
      t i => flushStream i x t) t).ev = t.ev := by
    intro l
    induction l with
    | nil => simp
    | cons x l ih => intro t; simp [ih]
  simp [flushAll, h]

end Sys2Proof.Machine
end

