-- ==== Sys2Proof/Laws/SwitchFrames.lean ====
section
/-! SUPPORT. What each operation of the switch engine leaves unchanged. -/

namespace Sys2Proof.Machine

variable (s : State)

@[simp] theorem recordOutcome_frame (r : SwitchResult) :
    (recordOutcome r s).pending = s.pending ∧ (recordOutcome r s).roleLine = s.roleLine ∧ (recordOutcome r
    s).fieldLine = s.fieldLine ∧ (recordOutcome r s).role = s.role ∧ (recordOutcome r s).clock = s.clock ∧
    (recordOutcome r s).plan = s.plan ∧ (recordOutcome r s).framer = s.framer ∧ (recordOutcome r s).sup =
    s.sup ∧ (recordOutcome r s).radio = s.radio ∧ (recordOutcome r s).time = s.time ∧ (recordOutcome r
    s).rejoin = s.rejoin ∧ (recordOutcome r s).storm = s.storm ∧ (recordOutcome r s).holdUp = s.holdUp ∧
    (recordOutcome r s).sweep = s.sweep ∧ (recordOutcome r s).ports = s.ports ∧ (recordOutcome r s).out =
    s.out := by
  simp [recordOutcome]

@[simp] theorem placeCancel_frame (e : Epoch) :
    (placeCancel e s).pending = s.pending ∧ (placeCancel e s).roleLine = s.roleLine ∧ (placeCancel e
    s).fieldLine = s.fieldLine ∧ (placeCancel e s).role = s.role ∧ (placeCancel e s).clock = s.clock ∧
    (placeCancel e s).plan = s.plan ∧ (placeCancel e s).framer = s.framer ∧ (placeCancel e s).sup = s.sup ∧
    (placeCancel e s).radio = s.radio ∧ (placeCancel e s).time = s.time ∧ (placeCancel e s).rejoin =
    s.rejoin ∧ (placeCancel e s).storm = s.storm ∧ (placeCancel e s).holdUp = s.holdUp ∧ (placeCancel e
    s).sweep = s.sweep ∧ (placeCancel e s).ports = s.ports ∧ (placeCancel e s).ev = s.ev ∧ (placeCancel e
    s).out = s.out := by
  simp [placeCancel]

@[simp] theorem startRun_frame (e : Epoch) (l : SfNum) :
    (startRun e l s).pending = s.pending ∧ (startRun e l s).roleLine = s.roleLine ∧ (startRun e l
    s).fieldLine = s.fieldLine ∧ (startRun e l s).role = s.role ∧ (startRun e l s).clock = s.clock ∧
    (startRun e l s).plan = s.plan ∧ (startRun e l s).framer = s.framer ∧ (startRun e l s).sup = s.sup ∧
    (startRun e l s).radio = s.radio ∧ (startRun e l s).time = s.time ∧ (startRun e l s).rejoin = s.rejoin ∧
    (startRun e l s).storm = s.storm ∧ (startRun e l s).holdUp = s.holdUp ∧ (startRun e l s).sweep = s.sweep
    ∧ (startRun e l s).ports = s.ports ∧ (startRun e l s).ev = s.ev ∧ (startRun e l s).out = s.out := by
  simp [startRun]

@[simp] theorem stepRun_frame :
    (stepRun s).pending = s.pending ∧ (stepRun s).roleLine = s.roleLine ∧ (stepRun s).fieldLine =
    s.fieldLine ∧ (stepRun s).role = s.role ∧ (stepRun s).clock = s.clock ∧ (stepRun s).plan = s.plan ∧
    (stepRun s).framer = s.framer ∧ (stepRun s).sup = s.sup ∧ (stepRun s).radio = s.radio ∧ (stepRun s).time
    = s.time ∧ (stepRun s).rejoin = s.rejoin ∧ (stepRun s).storm = s.storm ∧ (stepRun s).holdUp = s.holdUp ∧
    (stepRun s).sweep = s.sweep ∧ (stepRun s).ports = s.ports ∧ (stepRun s).ev = s.ev ∧ (stepRun s).out =
    s.out := by
  unfold stepRun; repeat' split
  all_goals simp

@[simp] theorem strayAnswer_frame :
    (strayAnswer s).pending = s.pending ∧ (strayAnswer s).roleLine = s.roleLine ∧ (strayAnswer s).fieldLine
    = s.fieldLine ∧ (strayAnswer s).role = s.role ∧ (strayAnswer s).clock = s.clock ∧ (strayAnswer s).plan =
    s.plan ∧ (strayAnswer s).disp = s.disp ∧ (strayAnswer s).framer = s.framer ∧ (strayAnswer s).sup = s.sup
    ∧ (strayAnswer s).radio = s.radio ∧ (strayAnswer s).time = s.time ∧ (strayAnswer s).rejoin = s.rejoin ∧
    (strayAnswer s).storm = s.storm ∧ (strayAnswer s).holdUp = s.holdUp ∧ (strayAnswer s).sweep = s.sweep ∧
    (strayAnswer s).ports = s.ports ∧ (strayAnswer s).ev = s.ev ∧ (strayAnswer s).out = s.out := by
  simp [strayAnswer]

@[simp] theorem takeAccept_frame (e : Epoch) :
    (takeAccept e s).pending = s.pending ∧ (takeAccept e s).roleLine = s.roleLine ∧ (takeAccept e
    s).fieldLine = s.fieldLine ∧ (takeAccept e s).role = s.role ∧ (takeAccept e s).clock = s.clock ∧
    (takeAccept e s).plan = s.plan ∧ (takeAccept e s).disp = s.disp ∧ (takeAccept e s).framer = s.framer ∧
    (takeAccept e s).sup = s.sup ∧ (takeAccept e s).radio = s.radio ∧ (takeAccept e s).time = s.time ∧
    (takeAccept e s).rejoin = s.rejoin ∧ (takeAccept e s).storm = s.storm ∧ (takeAccept e s).holdUp =
    s.holdUp ∧ (takeAccept e s).sweep = s.sweep ∧ (takeAccept e s).ports = s.ports ∧ (takeAccept e s).ev =
    s.ev ∧ (takeAccept e s).out = s.out := by
  unfold takeAccept; repeat' split
  all_goals simp

@[simp] theorem takeDecline_frame (e : Epoch) (y : DeclineReason) (v : Option Reason) (n : Nat) :
    (takeDecline e y v n s).pending = s.pending ∧ (takeDecline e y v n s).roleLine = s.roleLine ∧
    (takeDecline e y v n s).fieldLine = s.fieldLine ∧ (takeDecline e y v n s).role = s.role ∧ (takeDecline e
    y v n s).clock = s.clock ∧ (takeDecline e y v n s).plan = s.plan ∧ (takeDecline e y v n s).framer =
    s.framer ∧ (takeDecline e y v n s).sup = s.sup ∧ (takeDecline e y v n s).radio = s.radio ∧ (takeDecline
    e y v n s).time = s.time ∧ (takeDecline e y v n s).rejoin = s.rejoin ∧ (takeDecline e y v n s).storm =
    s.storm ∧ (takeDecline e y v n s).holdUp = s.holdUp ∧ (takeDecline e y v n s).sweep = s.sweep ∧
    (takeDecline e y v n s).ports = s.ports ∧ (takeDecline e y v n s).out = s.out := by
  unfold takeDecline; repeat' split
  all_goals simp

@[simp] theorem lateCancel_frame :
    (lateCancel s).pending = s.pending ∧ (lateCancel s).roleLine = s.roleLine ∧ (lateCancel s).fieldLine =
    s.fieldLine ∧ (lateCancel s).role = s.role ∧ (lateCancel s).clock = s.clock ∧ (lateCancel s).plan =
    s.plan ∧ (lateCancel s).disp = s.disp ∧ (lateCancel s).framer = s.framer ∧ (lateCancel s).sup = s.sup ∧
    (lateCancel s).radio = s.radio ∧ (lateCancel s).time = s.time ∧ (lateCancel s).rejoin = s.rejoin ∧
    (lateCancel s).storm = s.storm ∧ (lateCancel s).holdUp = s.holdUp ∧ (lateCancel s).sweep = s.sweep ∧
    (lateCancel s).ports = s.ports ∧ (lateCancel s).ev = s.ev ∧ (lateCancel s).out = s.out := by
  simp [lateCancel]

@[simp] theorem takeCancel_frame (e : Epoch) :
    (takeCancel e s).pending = s.pending ∧ (takeCancel e s).roleLine = s.roleLine ∧ (takeCancel e
    s).fieldLine = s.fieldLine ∧ (takeCancel e s).role = s.role ∧ (takeCancel e s).clock = s.clock ∧
    (takeCancel e s).plan = s.plan ∧ (takeCancel e s).framer = s.framer ∧ (takeCancel e s).sup = s.sup ∧
    (takeCancel e s).radio = s.radio ∧ (takeCancel e s).time = s.time ∧ (takeCancel e s).rejoin = s.rejoin ∧
    (takeCancel e s).storm = s.storm ∧ (takeCancel e s).holdUp = s.holdUp ∧ (takeCancel e s).sweep = s.sweep
    ∧ (takeCancel e s).ports = s.ports ∧ (takeCancel e s).out = s.out := by
  unfold takeCancel; repeat' split
  all_goals simp

@[simp] theorem placeDecline_frame (e : Epoch) (y : DeclineReason) (v : Option Reason) (n : Nat) :
    (placeDecline e y v n s).pending = s.pending ∧ (placeDecline e y v n s).roleLine = s.roleLine ∧
    (placeDecline e y v n s).fieldLine = s.fieldLine ∧ (placeDecline e y v n s).role = s.role ∧
    (placeDecline e y v n s).clock = s.clock ∧ (placeDecline e y v n s).plan = s.plan ∧ (placeDecline e y v
    n s).framer = s.framer ∧ (placeDecline e y v n s).sup = s.sup ∧ (placeDecline e y v n s).radio = s.radio
    ∧ (placeDecline e y v n s).time = s.time ∧ (placeDecline e y v n s).rejoin = s.rejoin ∧ (placeDecline e
    y v n s).storm = s.storm ∧ (placeDecline e y v n s).holdUp = s.holdUp ∧ (placeDecline e y v n s).sweep =
    s.sweep ∧ (placeDecline e y v n s).ports = s.ports ∧ (placeDecline e y v n s).ev = s.ev ∧ (placeDecline
    e y v n s).out = s.out := by
  simp [placeDecline]

@[simp] theorem armOn_frame (e : Epoch) (n : SfNum) (r : Role) (pl : Plan) :
    (armOn e n r pl s).pending = s.pending ∧ (armOn e n r pl s).roleLine = s.roleLine ∧ (armOn e n r pl
    s).fieldLine = s.fieldLine ∧ (armOn e n r pl s).role = s.role ∧ (armOn e n r pl s).clock = s.clock ∧
    (armOn e n r pl s).framer = s.framer ∧ (armOn e n r pl s).sup = s.sup ∧ (armOn e n r pl s).radio =
    s.radio ∧ (armOn e n r pl s).time = s.time ∧ (armOn e n r pl s).rejoin = s.rejoin ∧ (armOn e n r pl
    s).storm = s.storm ∧ (armOn e n r pl s).holdUp = s.holdUp ∧ (armOn e n r pl s).sweep = s.sweep ∧ (armOn
    e n r pl s).ports = s.ports ∧ (armOn e n r pl s).out = s.out := by
  simp [armOn]

@[simp] theorem judgeProposal_frame (e : Epoch) (n : SfNum) (r : Role) (ws : List WireDesc) :
    (judgeProposal e n r ws s).pending = s.pending ∧ (judgeProposal e n r ws s).roleLine = s.roleLine ∧
    (judgeProposal e n r ws s).fieldLine = s.fieldLine ∧ (judgeProposal e n r ws s).role = s.role ∧
    (judgeProposal e n r ws s).clock = s.clock ∧ (judgeProposal e n r ws s).framer = s.framer ∧
    (judgeProposal e n r ws s).sup = s.sup ∧ (judgeProposal e n r ws s).radio = s.radio ∧ (judgeProposal e n
    r ws s).time = s.time ∧ (judgeProposal e n r ws s).rejoin = s.rejoin ∧ (judgeProposal e n r ws s).storm
    = s.storm ∧ (judgeProposal e n r ws s).holdUp = s.holdUp ∧ (judgeProposal e n r ws s).sweep = s.sweep ∧
    (judgeProposal e n r ws s).ports = s.ports ∧ (judgeProposal e n r ws s).out = s.out := by
  unfold judgeProposal; repeat' split
  all_goals simp

@[simp] theorem takePropose_frame (e : Epoch) (n : SfNum) (r : Role) (ws : List WireDesc) :
    (takePropose e n r ws s).pending = s.pending ∧ (takePropose e n r ws s).roleLine = s.roleLine ∧
    (takePropose e n r ws s).fieldLine = s.fieldLine ∧ (takePropose e n r ws s).role = s.role ∧ (takePropose
    e n r ws s).clock = s.clock ∧ (takePropose e n r ws s).framer = s.framer ∧ (takePropose e n r ws s).sup
    = s.sup ∧ (takePropose e n r ws s).radio = s.radio ∧ (takePropose e n r ws s).time = s.time ∧
    (takePropose e n r ws s).rejoin = s.rejoin ∧ (takePropose e n r ws s).storm = s.storm ∧ (takePropose e n
    r ws s).holdUp = s.holdUp ∧ (takePropose e n r ws s).sweep = s.sweep ∧ (takePropose e n r ws s).ports =
    s.ports ∧ (takePropose e n r ws s).out = s.out := by
  unfold takePropose; repeat' split
  all_goals simp

@[simp] theorem meetDeadline_frame (p : Pending) :
    (meetDeadline p s).pending = s.pending ∧ (meetDeadline p s).roleLine = s.roleLine ∧ (meetDeadline p
    s).fieldLine = s.fieldLine ∧ (meetDeadline p s).role = s.role ∧ (meetDeadline p s).clock = s.clock ∧
    (meetDeadline p s).plan = s.plan ∧ (meetDeadline p s).framer = s.framer ∧ (meetDeadline p s).sup = s.sup
    ∧ (meetDeadline p s).radio = s.radio ∧ (meetDeadline p s).time = s.time ∧ (meetDeadline p s).rejoin =
    s.rejoin ∧ (meetDeadline p s).storm = s.storm ∧ (meetDeadline p s).holdUp = s.holdUp ∧ (meetDeadline p
    s).sweep = s.sweep ∧ (meetDeadline p s).ports = s.ports ∧ (meetDeadline p s).out = s.out := by
  simp [meetDeadline]

@[simp] theorem makeSwitch_frame (p : Pending) :
    (makeSwitch p s).pending = s.pending ∧ (makeSwitch p s).roleLine = s.roleLine ∧ (makeSwitch p
    s).fieldLine = s.fieldLine ∧ (makeSwitch p s).role = s.role ∧ (makeSwitch p s).framer = s.framer ∧
    (makeSwitch p s).sup = s.sup ∧ (makeSwitch p s).radio = s.radio ∧ (makeSwitch p s).storm = s.storm ∧
    (makeSwitch p s).holdUp = s.holdUp ∧ (makeSwitch p s).sweep = s.sweep ∧ (makeSwitch p s).ports = s.ports := by
  simp [makeSwitch]

end Sys2Proof.Machine
end

