-- ==== Sys2Proof/Laws/Boundary.lean ====
section
/-! SUPPORT. What happens ahead of an accepted cell at a superframe start: a switch that is due, then the budget counts. -/

namespace Sys2Proof.Machine

variable (s : State)

@[simp] theorem switchStep_frame :
    (switchStep s).pending = s.pending ∧ (switchStep s).roleLine = s.roleLine ∧ (switchStep s).fieldLine = s.fieldLine ∧
    (switchStep s).role = s.role ∧ (switchStep s).framer = s.framer ∧ (switchStep s).sup = s.sup ∧
    (switchStep s).radio = s.radio ∧ (switchStep s).storm = s.storm ∧ (switchStep s).holdUp = s.holdUp ∧
    (switchStep s).sweep = s.sweep ∧ (switchStep s).ports = s.ports := by
  unfold switchStep; repeat' split
  all_goals simp

@[simp] theorem beginAccept_frame :
    (beginAccept s).pending = s.pending ∧ (beginAccept s).roleLine = s.roleLine ∧ (beginAccept s).fieldLine = s.fieldLine ∧
    (beginAccept s).role = s.role ∧ (beginAccept s).framer = s.framer ∧ (beginAccept s).sup = s.sup ∧
    (beginAccept s).radio = s.radio ∧ (beginAccept s).storm = s.storm ∧ (beginAccept s).holdUp = s.holdUp ∧
    (beginAccept s).sweep = s.sweep ∧ (beginAccept s).ports = s.ports := by
  simp [beginAccept]

/-- Away from a superframe start no switch is made. -/
theorem switchStep_of_not_boundary {s : State} (h : boundary s = false) : switchStep s = s := by
  simp [switchStep, h]

/-- With the engine not ARMED no switch is made. -/
theorem switchStep_of_not_armed {s : State} (h : ∀ p, s.switch.engine ≠ .armed p) : switchStep s = s := by
  unfold switchStep
  cases e : s.switch.engine with
  | armed p => exact absurd e (h p)
  | _ => simp [switchDue, e]

/-- A switch that is due is made (R148). -/
theorem switchStep_of_due {s : State} {p : Pending} (h : boundary s = true) (d : switchDue s = some p) :
    switchStep s = makeSwitch p s := by
  simp [switchStep, h, d]

/-- Inside a superframe nothing comes ahead of an accepted cell. -/
theorem beginAccept_of_inside {s : State} (h : s.clock.link % 1000 ≠ 0) : beginAccept s = s := by
  have hb : boundary s = false := by simp [boundary, atStart, superframeUs, h]
  simp [beginAccept, switchStep_of_not_boundary hb, rollover, atStart, superframeUs, h]

end Sys2Proof.Machine
end

