-- ==== Sys2Proof/Laws/PathFrames.lean ====
section
/-! SUPPORT. What each operation of path supervision leaves unchanged. -/

namespace Sys2Proof.Machine

variable (s : State)

@[simp] theorem markUsed_frame (p : Path) :
    (markUsed p s).pending = s.pending ∧ (markUsed p s).roleLine = s.roleLine ∧ (markUsed p s).fieldLine =
    s.fieldLine ∧ (markUsed p s).role = s.role ∧ (markUsed p s).clock = s.clock ∧ (markUsed p s).plan =
    s.plan ∧ (markUsed p s).disp = s.disp ∧ (markUsed p s).framer = s.framer ∧ (markUsed p s).radio =
    s.radio ∧ (markUsed p s).time = s.time ∧ (markUsed p s).rejoin = s.rejoin ∧ (markUsed p s).storm =
    s.storm ∧ (markUsed p s).holdUp = s.holdUp ∧ (markUsed p s).switch = s.switch ∧ (markUsed p s).sweep =
    s.sweep ∧ (markUsed p s).ports = s.ports ∧ (markUsed p s).ev = s.ev ∧ (markUsed p s).out = s.out := by
  simp [markUsed]

@[simp] theorem coincidence_frame (p : Path) :
    (coincidence p s).pending = s.pending ∧ (coincidence p s).roleLine = s.roleLine ∧ (coincidence p
    s).fieldLine = s.fieldLine ∧ (coincidence p s).role = s.role ∧ (coincidence p s).plan = s.plan ∧
    (coincidence p s).rejoin = s.rejoin ∧ (coincidence p s).ports = s.ports ∧ (coincidence p s).out = s.out := by
  have h : ∀ (l : List Path) (t : State),
      (l.foldl (fun u q => markUsed q u) t).pending = t.pending ∧ (l.foldl (fun u q => markUsed q u)
      t).roleLine = t.roleLine ∧ (l.foldl (fun u q => markUsed q u) t).fieldLine = t.fieldLine ∧ (l.foldl
      (fun u q => markUsed q u) t).role = t.role ∧ (l.foldl (fun u q => markUsed q u) t).plan = t.plan ∧
      (l.foldl (fun u q => markUsed q u) t).rejoin = t.rejoin ∧ (l.foldl (fun u q => markUsed q u)
      t).ports = t.ports ∧ (l.foldl (fun u q => markUsed q u) t).out = t.out := by
    intro l
    induction l with
    | nil => simp
    | cons x l ih => intro t; simp [ih]
  simp only [coincidence]; repeat' split
  all_goals simp [h]

@[simp] theorem loseAlignment_frame (p : Path) :
    (loseAlignment p s).pending = s.pending ∧ (loseAlignment p s).roleLine = s.roleLine ∧ (loseAlignment p
    s).fieldLine = s.fieldLine ∧ (loseAlignment p s).role = s.role ∧ (loseAlignment p s).plan = s.plan ∧
    (loseAlignment p s).rejoin = s.rejoin ∧ (loseAlignment p s).ports = s.ports ∧ (loseAlignment p s).out =
    s.out := by
  unfold loseAlignment; split <;> simp

@[simp] theorem enterUp_frame (p : Path) :
    (enterUp p s).pending = s.pending ∧ (enterUp p s).roleLine = s.roleLine ∧ (enterUp p s).fieldLine =
    s.fieldLine ∧ (enterUp p s).role = s.role ∧ (enterUp p s).plan = s.plan ∧ (enterUp p s).framer =
    s.framer ∧ (enterUp p s).radio = s.radio ∧ (enterUp p s).rejoin = s.rejoin ∧ (enterUp p s).storm =
    s.storm ∧ (enterUp p s).holdUp = s.holdUp ∧ (enterUp p s).ports = s.ports ∧ (enterUp p s).out = s.out := by
  simp [enterUp]

@[simp] theorem reportProbation_frame (p : Path) (r : Report) :
    (reportProbation p r s).pending = s.pending ∧ (reportProbation p r s).roleLine = s.roleLine ∧
    (reportProbation p r s).fieldLine = s.fieldLine ∧ (reportProbation p r s).role = s.role ∧
    (reportProbation p r s).plan = s.plan ∧ (reportProbation p r s).framer = s.framer ∧ (reportProbation p r
    s).radio = s.radio ∧ (reportProbation p r s).rejoin = s.rejoin ∧ (reportProbation p r s).storm = s.storm
    ∧ (reportProbation p r s).holdUp = s.holdUp ∧ (reportProbation p r s).ports = s.ports ∧ (reportProbation
    p r s).out = s.out := by
  unfold reportProbation; split <;> simp

@[simp] theorem degrade_frame (p : Path) :
    (degrade p s).pending = s.pending ∧ (degrade p s).roleLine = s.roleLine ∧ (degrade p s).fieldLine =
    s.fieldLine ∧ (degrade p s).role = s.role ∧ (degrade p s).plan = s.plan ∧ (degrade p s).framer =
    s.framer ∧ (degrade p s).radio = s.radio ∧ (degrade p s).rejoin = s.rejoin ∧ (degrade p s).storm =
    s.storm ∧ (degrade p s).holdUp = s.holdUp ∧ (degrade p s).ports = s.ports ∧ (degrade p s).out = s.out := by
  simp [degrade]

@[simp] theorem reportDegraded_frame (p : Path) (r : Report) :
    (reportDegraded p r s).pending = s.pending ∧ (reportDegraded p r s).roleLine = s.roleLine ∧
    (reportDegraded p r s).fieldLine = s.fieldLine ∧ (reportDegraded p r s).role = s.role ∧ (reportDegraded
    p r s).plan = s.plan ∧ (reportDegraded p r s).framer = s.framer ∧ (reportDegraded p r s).radio = s.radio
    ∧ (reportDegraded p r s).rejoin = s.rejoin ∧ (reportDegraded p r s).storm = s.storm ∧ (reportDegraded p
    r s).holdUp = s.holdUp ∧ (reportDegraded p r s).ports = s.ports ∧ (reportDegraded p r s).out = s.out := by
  unfold reportDegraded; split <;> simp

@[simp] theorem reportSweep_frame (p : Path) (r : Report) :
    (reportSweep p r s).pending = s.pending ∧ (reportSweep p r s).roleLine = s.roleLine ∧ (reportSweep p r
    s).fieldLine = s.fieldLine ∧ (reportSweep p r s).role = s.role ∧ (reportSweep p r s).plan = s.plan ∧
    (reportSweep p r s).framer = s.framer ∧ (reportSweep p r s).radio = s.radio ∧ (reportSweep p r s).rejoin
    = s.rejoin ∧ (reportSweep p r s).storm = s.storm ∧ (reportSweep p r s).holdUp = s.holdUp ∧ (reportSweep
    p r s).ports = s.ports ∧ (reportSweep p r s).out = s.out := by
  unfold reportSweep; repeat' split
  all_goals simp

@[simp] theorem takeReport_frame (p : Path) (r : Report) :
    (takeReport p r s).pending = s.pending ∧ (takeReport p r s).roleLine = s.roleLine ∧ (takeReport p r
    s).fieldLine = s.fieldLine ∧ (takeReport p r s).role = s.role ∧ (takeReport p r s).plan = s.plan ∧
    (takeReport p r s).framer = s.framer ∧ (takeReport p r s).radio = s.radio ∧ (takeReport p r s).rejoin =
    s.rejoin ∧ (takeReport p r s).storm = s.storm ∧ (takeReport p r s).holdUp = s.holdUp ∧ (takeReport p r
    s).ports = s.ports ∧ (takeReport p r s).out = s.out := by
  unfold takeReport; repeat' split
  all_goals simp

@[simp] theorem parkedMiss_frame (p : Path) :
    (parkedMiss p s).pending = s.pending ∧ (parkedMiss p s).roleLine = s.roleLine ∧ (parkedMiss p
    s).fieldLine = s.fieldLine ∧ (parkedMiss p s).role = s.role ∧ (parkedMiss p s).clock = s.clock ∧
    (parkedMiss p s).plan = s.plan ∧ (parkedMiss p s).disp = s.disp ∧ (parkedMiss p s).sup = s.sup ∧
    (parkedMiss p s).radio = s.radio ∧ (parkedMiss p s).time = s.time ∧ (parkedMiss p s).rejoin = s.rejoin ∧
    (parkedMiss p s).storm = s.storm ∧ (parkedMiss p s).holdUp = s.holdUp ∧ (parkedMiss p s).switch =
    s.switch ∧ (parkedMiss p s).sweep = s.sweep ∧ (parkedMiss p s).ports = s.ports ∧ (parkedMiss p s).ev =
    s.ev ∧ (parkedMiss p s).out = s.out := by
  simp [parkedMiss]

@[simp] theorem notGood_frame (p : Path) (r : HeaderResult) :
    (notGood p r s).pending = s.pending ∧ (notGood p r s).roleLine = s.roleLine ∧ (notGood p r s).fieldLine
    = s.fieldLine ∧ (notGood p r s).role = s.role ∧ (notGood p r s).plan = s.plan ∧ (notGood p r s).rejoin =
    s.rejoin ∧ (notGood p r s).ports = s.ports ∧ (notGood p r s).out = s.out := by
  unfold notGood; repeat' split
  all_goals simp

@[simp] theorem failHeader_frame (p : Path) :
    (failHeader p s).pending = s.pending ∧ (failHeader p s).roleLine = s.roleLine ∧ (failHeader p
    s).fieldLine = s.fieldLine ∧ (failHeader p s).role = s.role ∧ (failHeader p s).clock = s.clock ∧
    (failHeader p s).plan = s.plan ∧ (failHeader p s).disp = s.disp ∧ (failHeader p s).sup = s.sup ∧
    (failHeader p s).radio = s.radio ∧ (failHeader p s).time = s.time ∧ (failHeader p s).rejoin = s.rejoin ∧
    (failHeader p s).storm = s.storm ∧ (failHeader p s).holdUp = s.holdUp ∧ (failHeader p s).switch =
    s.switch ∧ (failHeader p s).sweep = s.sweep ∧ (failHeader p s).ports = s.ports ∧ (failHeader p s).ev =
    s.ev ∧ (failHeader p s).out = s.out := by
  simp [failHeader]

@[simp] theorem takeFailed_frame (p : Path) (a : HeaderArrival) :
    (takeFailed p a s).pending = s.pending ∧ (takeFailed p a s).roleLine = s.roleLine ∧ (takeFailed p a
    s).fieldLine = s.fieldLine ∧ (takeFailed p a s).role = s.role ∧ (takeFailed p a s).plan = s.plan ∧
    (takeFailed p a s).rejoin = s.rejoin ∧ (takeFailed p a s).ports = s.ports ∧ (takeFailed p a s).out =
    s.out := by
  unfold takeFailed; split <;> simp

@[simp] theorem discardSample_frame (p : Path) :
    (discardSample p s).pending = s.pending ∧ (discardSample p s).roleLine = s.roleLine ∧ (discardSample p
    s).fieldLine = s.fieldLine ∧ (discardSample p s).role = s.role ∧ (discardSample p s).clock = s.clock ∧
    (discardSample p s).plan = s.plan ∧ (discardSample p s).disp = s.disp ∧ (discardSample p s).framer =
    s.framer ∧ (discardSample p s).radio = s.radio ∧ (discardSample p s).time = s.time ∧ (discardSample p
    s).rejoin = s.rejoin ∧ (discardSample p s).storm = s.storm ∧ (discardSample p s).holdUp = s.holdUp ∧
    (discardSample p s).switch = s.switch ∧ (discardSample p s).sweep = s.sweep ∧ (discardSample p s).ports
    = s.ports ∧ (discardSample p s).ev = s.ev ∧ (discardSample p s).out = s.out := by
  simp [discardSample]

@[simp] theorem acceptSample_frame (p : Path) (n : Nat) :
    (acceptSample p n s).pending = s.pending ∧ (acceptSample p n s).roleLine = s.roleLine ∧ (acceptSample p
    n s).fieldLine = s.fieldLine ∧ (acceptSample p n s).role = s.role ∧ (acceptSample p n s).plan = s.plan ∧
    (acceptSample p n s).framer = s.framer ∧ (acceptSample p n s).radio = s.radio ∧ (acceptSample p n
    s).rejoin = s.rejoin ∧ (acceptSample p n s).storm = s.storm ∧ (acceptSample p n s).holdUp = s.holdUp ∧
    (acceptSample p n s).ports = s.ports ∧ (acceptSample p n s).out = s.out := by
  unfold acceptSample; split <;> simp

@[simp] theorem takeSample_frame (p : Path) (a : HeaderArrival) :
    (takeSample p a s).pending = s.pending ∧ (takeSample p a s).roleLine = s.roleLine ∧ (takeSample p a
    s).fieldLine = s.fieldLine ∧ (takeSample p a s).role = s.role ∧ (takeSample p a s).plan = s.plan ∧
    (takeSample p a s).framer = s.framer ∧ (takeSample p a s).radio = s.radio ∧ (takeSample p a s).rejoin =
    s.rejoin ∧ (takeSample p a s).storm = s.storm ∧ (takeSample p a s).holdUp = s.holdUp ∧ (takeSample p a
    s).ports = s.ports ∧ (takeSample p a s).out = s.out := by
  unfold takeSample; repeat' split
  all_goals simp

@[simp] theorem cutForSetting_frame (n : Nat) (p : Path) :
    (cutForSetting n p s).pending = s.pending ∧ (cutForSetting n p s).roleLine = s.roleLine ∧ (cutForSetting
    n p s).fieldLine = s.fieldLine ∧ (cutForSetting n p s).role = s.role ∧ (cutForSetting n p s).clock =
    s.clock ∧ (cutForSetting n p s).plan = s.plan ∧ (cutForSetting n p s).radio = s.radio ∧ (cutForSetting n
    p s).time = s.time ∧ (cutForSetting n p s).rejoin = s.rejoin ∧ (cutForSetting n p s).storm = s.storm ∧
    (cutForSetting n p s).holdUp = s.holdUp ∧ (cutForSetting n p s).switch = s.switch ∧ (cutForSetting n p
    s).sweep = s.sweep ∧ (cutForSetting n p s).ports = s.ports ∧ (cutForSetting n p s).ev = s.ev ∧
    (cutForSetting n p s).out = s.out := by
  simp [cutForSetting]

@[simp] theorem setLink_frame (e : Int) :
    (setLink e s).pending = s.pending ∧ (setLink e s).roleLine = s.roleLine ∧ (setLink e s).fieldLine =
    s.fieldLine ∧ (setLink e s).role = s.role ∧ (setLink e s).plan = s.plan ∧ (setLink e s).radio = s.radio
    ∧ (setLink e s).rejoin = s.rejoin ∧ (setLink e s).storm = s.storm ∧ (setLink e s).holdUp = s.holdUp ∧
    (setLink e s).switch = s.switch ∧ (setLink e s).sweep = s.sweep ∧ (setLink e s).ports = s.ports ∧
    (setLink e s).ev = s.ev ∧ (setLink e s).out = s.out := by
  simp [setLink]

@[simp] theorem correctLink_frame (e : Int) :
    (correctLink e s).pending = s.pending ∧ (correctLink e s).roleLine = s.roleLine ∧ (correctLink e
    s).fieldLine = s.fieldLine ∧ (correctLink e s).role = s.role ∧ (correctLink e s).plan = s.plan ∧
    (correctLink e s).disp = s.disp ∧ (correctLink e s).framer = s.framer ∧ (correctLink e s).sup = s.sup ∧
    (correctLink e s).radio = s.radio ∧ (correctLink e s).rejoin = s.rejoin ∧ (correctLink e s).storm =
    s.storm ∧ (correctLink e s).holdUp = s.holdUp ∧ (correctLink e s).switch = s.switch ∧ (correctLink e
    s).sweep = s.sweep ∧ (correctLink e s).ports = s.ports ∧ (correctLink e s).ev = s.ev ∧ (correctLink e
    s).out = s.out := by
  simp [correctLink]

@[simp] theorem alignLink_frame (p : Path) (a : HeaderArrival) :
    (alignLink p a s).pending = s.pending ∧ (alignLink p a s).roleLine = s.roleLine ∧ (alignLink p a
    s).fieldLine = s.fieldLine ∧ (alignLink p a s).role = s.role ∧ (alignLink p a s).plan = s.plan ∧
    (alignLink p a s).radio = s.radio ∧ (alignLink p a s).rejoin = s.rejoin ∧ (alignLink p a s).storm =
    s.storm ∧ (alignLink p a s).holdUp = s.holdUp ∧ (alignLink p a s).switch = s.switch ∧ (alignLink p a
    s).sweep = s.sweep ∧ (alignLink p a s).ports = s.ports ∧ (alignLink p a s).ev = s.ev ∧ (alignLink p a
    s).out = s.out := by
  unfold alignLink; split <;> simp

@[simp] theorem compareEpoch_frame (a : HeaderArrival) :
    (compareEpoch a s).pending = s.pending ∧ (compareEpoch a s).roleLine = s.roleLine ∧ (compareEpoch a
    s).fieldLine = s.fieldLine ∧ (compareEpoch a s).role = s.role ∧ (compareEpoch a s).clock = s.clock ∧
    (compareEpoch a s).plan = s.plan ∧ (compareEpoch a s).framer = s.framer ∧ (compareEpoch a s).sup = s.sup
    ∧ (compareEpoch a s).radio = s.radio ∧ (compareEpoch a s).time = s.time ∧ (compareEpoch a s).rejoin =
    s.rejoin ∧ (compareEpoch a s).storm = s.storm ∧ (compareEpoch a s).holdUp = s.holdUp ∧ (compareEpoch a
    s).sweep = s.sweep ∧ (compareEpoch a s).ports = s.ports ∧ (compareEpoch a s).out = s.out := by
  simp only [compareEpoch]; repeat' split
  all_goals simp

@[simp] theorem framerGood_frame (p : Path) (a : HeaderArrival) :
    (framerGood p a s).pending = s.pending ∧ (framerGood p a s).roleLine = s.roleLine ∧ (framerGood p a
    s).fieldLine = s.fieldLine ∧ (framerGood p a s).role = s.role ∧ (framerGood p a s).clock = s.clock ∧
    (framerGood p a s).plan = s.plan ∧ (framerGood p a s).disp = s.disp ∧ (framerGood p a s).sup = s.sup ∧
    (framerGood p a s).radio = s.radio ∧ (framerGood p a s).time = s.time ∧ (framerGood p a s).rejoin =
    s.rejoin ∧ (framerGood p a s).storm = s.storm ∧ (framerGood p a s).holdUp = s.holdUp ∧ (framerGood p a
    s).switch = s.switch ∧ (framerGood p a s).sweep = s.sweep ∧ (framerGood p a s).ports = s.ports ∧
    (framerGood p a s).ev = s.ev ∧ (framerGood p a s).out = s.out := by
  simp [framerGood]

@[simp] theorem rememberHeader_frame (p : Path) (a : HeaderArrival) :
    (rememberHeader p a s).pending = s.pending ∧ (rememberHeader p a s).roleLine = s.roleLine ∧
    (rememberHeader p a s).fieldLine = s.fieldLine ∧ (rememberHeader p a s).role = s.role ∧ (rememberHeader
    p a s).clock = s.clock ∧ (rememberHeader p a s).plan = s.plan ∧ (rememberHeader p a s).disp = s.disp ∧
    (rememberHeader p a s).framer = s.framer ∧ (rememberHeader p a s).radio = s.radio ∧ (rememberHeader p a
    s).time = s.time ∧ (rememberHeader p a s).rejoin = s.rejoin ∧ (rememberHeader p a s).storm = s.storm ∧
    (rememberHeader p a s).holdUp = s.holdUp ∧ (rememberHeader p a s).switch = s.switch ∧ (rememberHeader p
    a s).sweep = s.sweep ∧ (rememberHeader p a s).ports = s.ports ∧ (rememberHeader p a s).ev = s.ev ∧
    (rememberHeader p a s).out = s.out := by
  simp [rememberHeader]

@[simp] theorem enterProbation_frame (p : Path) (n : Nat) :
    (enterProbation p n s).pending = s.pending ∧ (enterProbation p n s).roleLine = s.roleLine ∧
    (enterProbation p n s).fieldLine = s.fieldLine ∧ (enterProbation p n s).role = s.role ∧ (enterProbation
    p n s).plan = s.plan ∧ (enterProbation p n s).radio = s.radio ∧ (enterProbation p n s).rejoin = s.rejoin
    ∧ (enterProbation p n s).storm = s.storm ∧ (enterProbation p n s).holdUp = s.holdUp ∧ (enterProbation p
    n s).ports = s.ports ∧ (enterProbation p n s).out = s.out := by
  simp [enterProbation]

@[simp] theorem goodAcquire_frame (p : Path) (a : HeaderArrival) (n : Nat) :
    (goodAcquire p a n s).pending = s.pending ∧ (goodAcquire p a n s).roleLine = s.roleLine ∧ (goodAcquire p
    a n s).fieldLine = s.fieldLine ∧ (goodAcquire p a n s).role = s.role ∧ (goodAcquire p a n s).plan =
    s.plan ∧ (goodAcquire p a n s).radio = s.radio ∧ (goodAcquire p a n s).rejoin = s.rejoin ∧ (goodAcquire
    p a n s).storm = s.storm ∧ (goodAcquire p a n s).holdUp = s.holdUp ∧ (goodAcquire p a n s).ports =
    s.ports ∧ (goodAcquire p a n s).out = s.out := by
  unfold goodAcquire; split <;> simp

@[simp] theorem beginSuperframe_frame (p : Path) (a : HeaderArrival) :
    (beginSuperframe p a s).pending = s.pending ∧ (beginSuperframe p a s).roleLine = s.roleLine ∧
    (beginSuperframe p a s).fieldLine = s.fieldLine ∧ (beginSuperframe p a s).role = s.role ∧
    (beginSuperframe p a s).plan = s.plan ∧ (beginSuperframe p a s).radio = s.radio ∧ (beginSuperframe p a
    s).rejoin = s.rejoin ∧ (beginSuperframe p a s).storm = s.storm ∧ (beginSuperframe p a s).holdUp =
    s.holdUp ∧ (beginSuperframe p a s).ports = s.ports ∧ (beginSuperframe p a s).out = s.out := by
  unfold beginSuperframe; split <;> simp

@[simp] theorem goodTracked_frame (p : Path) (a : HeaderArrival) (b : Bool) :
    (goodTracked p a b s).pending = s.pending ∧ (goodTracked p a b s).roleLine = s.roleLine ∧ (goodTracked p
    a b s).fieldLine = s.fieldLine ∧ (goodTracked p a b s).role = s.role ∧ (goodTracked p a b s).plan =
    s.plan ∧ (goodTracked p a b s).radio = s.radio ∧ (goodTracked p a b s).rejoin = s.rejoin ∧ (goodTracked
    p a b s).storm = s.storm ∧ (goodTracked p a b s).holdUp = s.holdUp ∧ (goodTracked p a b s).ports =
    s.ports ∧ (goodTracked p a b s).out = s.out := by
  unfold goodTracked; split <;> simp

@[simp] theorem superviseGood_frame (p : Path) (a : HeaderArrival) :
    (superviseGood p a s).pending = s.pending ∧ (superviseGood p a s).roleLine = s.roleLine ∧ (superviseGood
    p a s).fieldLine = s.fieldLine ∧ (superviseGood p a s).role = s.role ∧ (superviseGood p a s).plan =
    s.plan ∧ (superviseGood p a s).radio = s.radio ∧ (superviseGood p a s).rejoin = s.rejoin ∧
    (superviseGood p a s).storm = s.storm ∧ (superviseGood p a s).holdUp = s.holdUp ∧ (superviseGood p a
    s).ports = s.ports ∧ (superviseGood p a s).out = s.out := by
  unfold superviseGood; split <;> simp

@[simp] theorem takeGood_frame (p : Path) (a : HeaderArrival) :
    (takeGood p a s).pending = s.pending ∧ (takeGood p a s).roleLine = s.roleLine ∧ (takeGood p a
    s).fieldLine = s.fieldLine ∧ (takeGood p a s).role = s.role ∧ (takeGood p a s).plan = s.plan ∧ (takeGood
    p a s).rejoin = s.rejoin ∧ (takeGood p a s).holdUp = s.holdUp ∧ (takeGood p a s).ports = s.ports ∧
    (takeGood p a s).out = s.out := by
  unfold takeGood; split <;> simp

@[simp] theorem receiveHeader_frame (p : Path) (a : HeaderArrival) :
    (receiveHeader p a s).pending = s.pending ∧ (receiveHeader p a s).roleLine = s.roleLine ∧ (receiveHeader
    p a s).fieldLine = s.fieldLine ∧ (receiveHeader p a s).role = s.role ∧ (receiveHeader p a s).plan =
    s.plan ∧ (receiveHeader p a s).rejoin = s.rejoin ∧ (receiveHeader p a s).ports = s.ports ∧
    (receiveHeader p a s).out = s.out := by
  unfold receiveHeader; repeat' split
  all_goals simp

@[simp] theorem missHeader_frame (p : Path) :
    (missHeader p s).pending = s.pending ∧ (missHeader p s).roleLine = s.roleLine ∧ (missHeader p
    s).fieldLine = s.fieldLine ∧ (missHeader p s).role = s.role ∧ (missHeader p s).plan = s.plan ∧
    (missHeader p s).rejoin = s.rejoin ∧ (missHeader p s).ports = s.ports ∧ (missHeader p s).out = s.out := by
  unfold missHeader; split <;> simp

@[simp] theorem handOn_frame (p : Path) (b : BlockArrival) :
    (handOn p b s).pending = s.pending ∧ (handOn p b s).roleLine = s.roleLine ∧ (handOn p b s).fieldLine =
    s.fieldLine ∧ (handOn p b s).role = s.role ∧ (handOn p b s).clock = s.clock ∧ (handOn p b s).plan =
    s.plan ∧ (handOn p b s).framer = s.framer ∧ (handOn p b s).radio = s.radio ∧ (handOn p b s).time =
    s.time ∧ (handOn p b s).storm = s.storm ∧ (handOn p b s).holdUp = s.holdUp ∧ (handOn p b s).switch =
    s.switch ∧ (handOn p b s).sweep = s.sweep ∧ (handOn p b s).ports = s.ports := by
  have h : ∀ (q : Quality) (l : List CellArrival) (t : State),
      (l.foldl (fun t c => takeCopy ⟨p, q, c⟩ t) t).pending = t.pending ∧ (l.foldl (fun t c => takeCopy
      ⟨p, q, c⟩ t) t).roleLine = t.roleLine ∧ (l.foldl (fun t c => takeCopy ⟨p, q, c⟩ t) t).fieldLine =
      t.fieldLine ∧ (l.foldl (fun t c => takeCopy ⟨p, q, c⟩ t) t).role = t.role ∧ (l.foldl (fun t c =>
      takeCopy ⟨p, q, c⟩ t) t).clock = t.clock ∧ (l.foldl (fun t c => takeCopy ⟨p, q, c⟩ t) t).plan =
      t.plan ∧ (l.foldl (fun t c => takeCopy ⟨p, q, c⟩ t) t).framer = t.framer ∧ (l.foldl (fun t c =>
      takeCopy ⟨p, q, c⟩ t) t).radio = t.radio ∧ (l.foldl (fun t c => takeCopy ⟨p, q, c⟩ t) t).time =
      t.time ∧ (l.foldl (fun t c => takeCopy ⟨p, q, c⟩ t) t).storm = t.storm ∧ (l.foldl (fun t c =>
      takeCopy ⟨p, q, c⟩ t) t).holdUp = t.holdUp ∧ (l.foldl (fun t c => takeCopy ⟨p, q, c⟩ t) t).switch =
      t.switch ∧ (l.foldl (fun t c => takeCopy ⟨p, q, c⟩ t) t).sweep = t.sweep ∧ (l.foldl (fun t c =>
      takeCopy ⟨p, q, c⟩ t) t).ports = t.ports := by
    intro q l
    induction l with
    | nil => simp
    | cons x l ih => intro t; simp [ih]
  unfold handOn; repeat' split
  all_goals simp [h]

@[simp] theorem judgeBlock_frame (p : Path) (r : RxSuperframe) (b : BlockArrival) :
    (judgeBlock p r b s).pending = s.pending ∧ (judgeBlock p r b s).roleLine = s.roleLine ∧ (judgeBlock p r
    b s).fieldLine = s.fieldLine ∧ (judgeBlock p r b s).role = s.role ∧ (judgeBlock p r b s).clock = s.clock
    ∧ (judgeBlock p r b s).plan = s.plan ∧ (judgeBlock p r b s).radio = s.radio ∧ (judgeBlock p r b s).time
    = s.time ∧ (judgeBlock p r b s).storm = s.storm ∧ (judgeBlock p r b s).holdUp = s.holdUp ∧ (judgeBlock p
    r b s).switch = s.switch ∧ (judgeBlock p r b s).sweep = s.sweep ∧ (judgeBlock p r b s).ports = s.ports := by
  unfold judgeBlock; repeat' split
  all_goals simp

@[simp] theorem receiveBlock_frame (p : Path) (b : BlockArrival) :
    (receiveBlock p b s).pending = s.pending ∧ (receiveBlock p b s).roleLine = s.roleLine ∧ (receiveBlock p
    b s).fieldLine = s.fieldLine ∧ (receiveBlock p b s).role = s.role ∧ (receiveBlock p b s).plan = s.plan ∧
    (receiveBlock p b s).radio = s.radio ∧ (receiveBlock p b s).storm = s.storm ∧ (receiveBlock p b
    s).holdUp = s.holdUp ∧ (receiveBlock p b s).ports = s.ports := by
  unfold receiveBlock; repeat' split
  all_goals simp

@[simp] theorem receive_frame (p : Path) (e : RxEvent) :
    (receive p e s).pending = s.pending ∧ (receive p e s).roleLine = s.roleLine ∧ (receive p e s).fieldLine
    = s.fieldLine ∧ (receive p e s).role = s.role ∧ (receive p e s).plan = s.plan ∧ (receive p e s).ports =
    s.ports := by
  unfold receive; split <;> simp

@[simp] theorem startSweep_frame (c : CurrentSweep) :
    (startSweep c s).pending = s.pending ∧ (startSweep c s).roleLine = s.roleLine ∧ (startSweep c
    s).fieldLine = s.fieldLine ∧ (startSweep c s).role = s.role ∧ (startSweep c s).plan = s.plan ∧
    (startSweep c s).radio = s.radio ∧ (startSweep c s).rejoin = s.rejoin ∧ (startSweep c s).storm = s.storm
    ∧ (startSweep c s).holdUp = s.holdUp ∧ (startSweep c s).ports = s.ports ∧ (startSweep c s).out = s.out := by
  simp [startSweep]

end Sys2Proof.Machine
end

