-- ==== Sys2Proof/Laws/OwnerFrames.lean ====
section
/-! SUPPORT. What each command leaves unchanged at its owner. -/

namespace Sys2Proof.Machine

variable (s : State)

@[simp] theorem renew_frame (src : Source) :
    (renew src s).pending = s.pending ∧ (renew src s).roleLine = s.roleLine ∧ (renew src s).fieldLine =
    s.fieldLine ∧ (renew src s).role = s.role ∧ (renew src s).clock = s.clock ∧ (renew src s).disp = s.disp
    ∧ (renew src s).framer = s.framer ∧ (renew src s).sup = s.sup ∧ (renew src s).radio = s.radio ∧ (renew
    src s).time = s.time ∧ (renew src s).rejoin = s.rejoin ∧ (renew src s).storm = s.storm ∧ (renew src
    s).holdUp = s.holdUp ∧ (renew src s).switch = s.switch ∧ (renew src s).sweep = s.sweep ∧ (renew src
    s).ports = s.ports ∧ (renew src s).ev = s.ev ∧ (renew src s).out = s.out := by
  unfold renew; split <;> simp

@[simp] theorem freeClaim_frame :
    (freeClaim s).pending = s.pending ∧ (freeClaim s).roleLine = s.roleLine ∧ (freeClaim s).fieldLine =
    s.fieldLine ∧ (freeClaim s).role = s.role ∧ (freeClaim s).clock = s.clock ∧ (freeClaim s).disp = s.disp
    ∧ (freeClaim s).framer = s.framer ∧ (freeClaim s).sup = s.sup ∧ (freeClaim s).radio = s.radio ∧
    (freeClaim s).time = s.time ∧ (freeClaim s).rejoin = s.rejoin ∧ (freeClaim s).storm = s.storm ∧
    (freeClaim s).holdUp = s.holdUp ∧ (freeClaim s).switch = s.switch ∧ (freeClaim s).sweep = s.sweep ∧
    (freeClaim s).ports = s.ports ∧ (freeClaim s).ev = s.ev ∧ (freeClaim s).out = s.out := by
  simp [freeClaim]

@[simp] theorem writeStaged_frame (i : StreamIx) (d : Descriptor) :
    (writeStaged i d s).pending = s.pending ∧ (writeStaged i d s).roleLine = s.roleLine ∧ (writeStaged i d
    s).fieldLine = s.fieldLine ∧ (writeStaged i d s).role = s.role ∧ (writeStaged i d s).clock = s.clock ∧
    (writeStaged i d s).disp = s.disp ∧ (writeStaged i d s).framer = s.framer ∧ (writeStaged i d s).sup =
    s.sup ∧ (writeStaged i d s).radio = s.radio ∧ (writeStaged i d s).time = s.time ∧ (writeStaged i d
    s).rejoin = s.rejoin ∧ (writeStaged i d s).storm = s.storm ∧ (writeStaged i d s).holdUp = s.holdUp ∧
    (writeStaged i d s).switch = s.switch ∧ (writeStaged i d s).sweep = s.sweep ∧ (writeStaged i d s).ports
    = s.ports ∧ (writeStaged i d s).ev = s.ev ∧ (writeStaged i d s).out = s.out := by
  simp [writeStaged]

@[simp] theorem grantClaim_frame (src : Source) (a : ClaimArgs) :
    (grantClaim src a s).pending = s.pending ∧ (grantClaim src a s).roleLine = s.roleLine ∧ (grantClaim src
    a s).fieldLine = s.fieldLine ∧ (grantClaim src a s).role = s.role ∧ (grantClaim src a s).clock = s.clock
    ∧ (grantClaim src a s).disp = s.disp ∧ (grantClaim src a s).framer = s.framer ∧ (grantClaim src a s).sup
    = s.sup ∧ (grantClaim src a s).radio = s.radio ∧ (grantClaim src a s).time = s.time ∧ (grantClaim src a
    s).rejoin = s.rejoin ∧ (grantClaim src a s).storm = s.storm ∧ (grantClaim src a s).holdUp = s.holdUp ∧
    (grantClaim src a s).switch = s.switch ∧ (grantClaim src a s).sweep = s.sweep ∧ (grantClaim src a
    s).ports = s.ports ∧ (grantClaim src a s).ev = s.ev ∧ (grantClaim src a s).out = s.out := by
  simp [grantClaim]

@[simp] theorem lapseClaim_frame :
    (lapseClaim s).pending = s.pending ∧ (lapseClaim s).roleLine = s.roleLine ∧ (lapseClaim s).fieldLine =
    s.fieldLine ∧ (lapseClaim s).role = s.role ∧ (lapseClaim s).clock = s.clock ∧ (lapseClaim s).framer =
    s.framer ∧ (lapseClaim s).sup = s.sup ∧ (lapseClaim s).radio = s.radio ∧ (lapseClaim s).time = s.time ∧
    (lapseClaim s).rejoin = s.rejoin ∧ (lapseClaim s).storm = s.storm ∧ (lapseClaim s).holdUp = s.holdUp ∧
    (lapseClaim s).switch = s.switch ∧ (lapseClaim s).sweep = s.sweep ∧ (lapseClaim s).ports = s.ports ∧
    (lapseClaim s).out = s.out := by
  unfold lapseClaim; split <;> simp

@[simp] theorem commitInvalid_frame (r : Reason) (i : Nat) (a : CommitArgs) :
    (commitInvalid r i a s).pending = s.pending ∧ (commitInvalid r i a s).roleLine = s.roleLine ∧
    (commitInvalid r i a s).fieldLine = s.fieldLine ∧ (commitInvalid r i a s).role = s.role ∧ (commitInvalid
    r i a s).clock = s.clock ∧ (commitInvalid r i a s).plan = s.plan ∧ (commitInvalid r i a s).framer =
    s.framer ∧ (commitInvalid r i a s).sup = s.sup ∧ (commitInvalid r i a s).radio = s.radio ∧
    (commitInvalid r i a s).time = s.time ∧ (commitInvalid r i a s).rejoin = s.rejoin ∧ (commitInvalid r i a
    s).storm = s.storm ∧ (commitInvalid r i a s).holdUp = s.holdUp ∧ (commitInvalid r i a s).sweep = s.sweep
    ∧ (commitInvalid r i a s).ports = s.ports ∧ (commitInvalid r i a s).out = s.out := by
  simp [commitInvalid]

@[simp] theorem commitProposal_frame (a : CommitArgs) :
    (commitProposal a s).pending = s.pending ∧ (commitProposal a s).roleLine = s.roleLine ∧ (commitProposal
    a s).fieldLine = s.fieldLine ∧ (commitProposal a s).role = s.role ∧ (commitProposal a s).clock = s.clock
    ∧ (commitProposal a s).framer = s.framer ∧ (commitProposal a s).sup = s.sup ∧ (commitProposal a s).radio
    = s.radio ∧ (commitProposal a s).time = s.time ∧ (commitProposal a s).rejoin = s.rejoin ∧
    (commitProposal a s).storm = s.storm ∧ (commitProposal a s).holdUp = s.holdUp ∧ (commitProposal a
    s).sweep = s.sweep ∧ (commitProposal a s).ports = s.ports ∧ (commitProposal a s).ev = s.ev ∧
    (commitProposal a s).out = s.out := by
  simp [commitProposal]

@[simp] theorem ownSetStream_frame (src : Source) (i : Byte) (a : StreamArgs) :
    (ownSetStream src i a s).1.pending = s.pending ∧ (ownSetStream src i a s).1.roleLine = s.roleLine ∧
    (ownSetStream src i a s).1.fieldLine = s.fieldLine ∧ (ownSetStream src i a s).1.role = s.role ∧
    (ownSetStream src i a s).1.clock = s.clock ∧ (ownSetStream src i a s).1.disp = s.disp ∧ (ownSetStream
    src i a s).1.framer = s.framer ∧ (ownSetStream src i a s).1.sup = s.sup ∧ (ownSetStream src i a
    s).1.radio = s.radio ∧ (ownSetStream src i a s).1.time = s.time ∧ (ownSetStream src i a s).1.rejoin =
    s.rejoin ∧ (ownSetStream src i a s).1.storm = s.storm ∧ (ownSetStream src i a s).1.holdUp = s.holdUp ∧
    (ownSetStream src i a s).1.switch = s.switch ∧ (ownSetStream src i a s).1.sweep = s.sweep ∧
    (ownSetStream src i a s).1.ports = s.ports ∧ (ownSetStream src i a s).1.ev = s.ev ∧ (ownSetStream src i
    a s).1.out = s.out := by
  unfold ownSetStream; repeat' split
  all_goals simp

@[simp] theorem ownClearStream_frame (src : Source) (i : Byte) :
    (ownClearStream src i s).1.pending = s.pending ∧ (ownClearStream src i s).1.roleLine = s.roleLine ∧
    (ownClearStream src i s).1.fieldLine = s.fieldLine ∧ (ownClearStream src i s).1.role = s.role ∧
    (ownClearStream src i s).1.clock = s.clock ∧ (ownClearStream src i s).1.disp = s.disp ∧ (ownClearStream
    src i s).1.framer = s.framer ∧ (ownClearStream src i s).1.sup = s.sup ∧ (ownClearStream src i s).1.radio
    = s.radio ∧ (ownClearStream src i s).1.time = s.time ∧ (ownClearStream src i s).1.rejoin = s.rejoin ∧
    (ownClearStream src i s).1.storm = s.storm ∧ (ownClearStream src i s).1.holdUp = s.holdUp ∧
    (ownClearStream src i s).1.switch = s.switch ∧ (ownClearStream src i s).1.sweep = s.sweep ∧
    (ownClearStream src i s).1.ports = s.ports ∧ (ownClearStream src i s).1.ev = s.ev ∧ (ownClearStream src
    i s).1.out = s.out := by
  unfold ownClearStream; repeat' split
  all_goals simp

@[simp] theorem ownRevert_frame (src : Source) :
    (ownRevert src s).1.pending = s.pending ∧ (ownRevert src s).1.roleLine = s.roleLine ∧ (ownRevert src
    s).1.fieldLine = s.fieldLine ∧ (ownRevert src s).1.role = s.role ∧ (ownRevert src s).1.clock = s.clock ∧
    (ownRevert src s).1.disp = s.disp ∧ (ownRevert src s).1.framer = s.framer ∧ (ownRevert src s).1.sup =
    s.sup ∧ (ownRevert src s).1.radio = s.radio ∧ (ownRevert src s).1.time = s.time ∧ (ownRevert src
    s).1.rejoin = s.rejoin ∧ (ownRevert src s).1.storm = s.storm ∧ (ownRevert src s).1.holdUp = s.holdUp ∧
    (ownRevert src s).1.switch = s.switch ∧ (ownRevert src s).1.sweep = s.sweep ∧ (ownRevert src s).1.ports
    = s.ports ∧ (ownRevert src s).1.ev = s.ev ∧ (ownRevert src s).1.out = s.out := by
  unfold ownRevert; repeat' split
  all_goals simp

@[simp] theorem ownClaim_frame (src : Source) (a : ClaimArgs) :
    (ownClaim src a s).1.pending = s.pending ∧ (ownClaim src a s).1.roleLine = s.roleLine ∧ (ownClaim src a
    s).1.fieldLine = s.fieldLine ∧ (ownClaim src a s).1.role = s.role ∧ (ownClaim src a s).1.clock = s.clock
    ∧ (ownClaim src a s).1.disp = s.disp ∧ (ownClaim src a s).1.framer = s.framer ∧ (ownClaim src a s).1.sup
    = s.sup ∧ (ownClaim src a s).1.radio = s.radio ∧ (ownClaim src a s).1.time = s.time ∧ (ownClaim src a
    s).1.rejoin = s.rejoin ∧ (ownClaim src a s).1.storm = s.storm ∧ (ownClaim src a s).1.holdUp = s.holdUp ∧
    (ownClaim src a s).1.switch = s.switch ∧ (ownClaim src a s).1.sweep = s.sweep ∧ (ownClaim src a
    s).1.ports = s.ports ∧ (ownClaim src a s).1.ev = s.ev ∧ (ownClaim src a s).1.out = s.out := by
  unfold ownClaim; repeat' split
  all_goals simp

@[simp] theorem ownRelease_frame (src : Source) :
    (ownRelease src s).1.pending = s.pending ∧ (ownRelease src s).1.roleLine = s.roleLine ∧ (ownRelease src
    s).1.fieldLine = s.fieldLine ∧ (ownRelease src s).1.role = s.role ∧ (ownRelease src s).1.clock = s.clock
    ∧ (ownRelease src s).1.framer = s.framer ∧ (ownRelease src s).1.sup = s.sup ∧ (ownRelease src s).1.radio
    = s.radio ∧ (ownRelease src s).1.time = s.time ∧ (ownRelease src s).1.rejoin = s.rejoin ∧ (ownRelease
    src s).1.storm = s.storm ∧ (ownRelease src s).1.holdUp = s.holdUp ∧ (ownRelease src s).1.switch =
    s.switch ∧ (ownRelease src s).1.sweep = s.sweep ∧ (ownRelease src s).1.ports = s.ports ∧ (ownRelease src
    s).1.out = s.out := by
  unfold ownRelease; repeat' split
  all_goals simp

@[simp] theorem ownPin_frame :
    (ownPin s).1.pending = s.pending ∧ (ownPin s).1.roleLine = s.roleLine ∧ (ownPin s).1.fieldLine =
    s.fieldLine ∧ (ownPin s).1.role = s.role ∧ (ownPin s).1.clock = s.clock ∧ (ownPin s).1.plan = s.plan ∧
    (ownPin s).1.disp = s.disp ∧ (ownPin s).1.framer = s.framer ∧ (ownPin s).1.sup = s.sup ∧ (ownPin
    s).1.radio = s.radio ∧ (ownPin s).1.time = s.time ∧ (ownPin s).1.rejoin = s.rejoin ∧ (ownPin s).1.storm
    = s.storm ∧ (ownPin s).1.switch = s.switch ∧ (ownPin s).1.sweep = s.sweep ∧ (ownPin s).1.ports = s.ports
    ∧ (ownPin s).1.ev = s.ev ∧ (ownPin s).1.out = s.out := by
  unfold ownPin; split <;> simp

@[simp] theorem ownUnpin_frame :
    (ownUnpin s).1.pending = s.pending ∧ (ownUnpin s).1.roleLine = s.roleLine ∧ (ownUnpin s).1.fieldLine =
    s.fieldLine ∧ (ownUnpin s).1.role = s.role ∧ (ownUnpin s).1.clock = s.clock ∧ (ownUnpin s).1.plan =
    s.plan ∧ (ownUnpin s).1.disp = s.disp ∧ (ownUnpin s).1.framer = s.framer ∧ (ownUnpin s).1.sup = s.sup ∧
    (ownUnpin s).1.radio = s.radio ∧ (ownUnpin s).1.time = s.time ∧ (ownUnpin s).1.rejoin = s.rejoin ∧
    (ownUnpin s).1.storm = s.storm ∧ (ownUnpin s).1.switch = s.switch ∧ (ownUnpin s).1.sweep = s.sweep ∧
    (ownUnpin s).1.ports = s.ports ∧ (ownUnpin s).1.ev = s.ev ∧ (ownUnpin s).1.out = s.out := by
  simp [ownUnpin]

@[simp] theorem ownCommit_frame (src : Source) (a : CommitArgs) :
    (ownCommit src a s).1.pending = s.pending ∧ (ownCommit src a s).1.roleLine = s.roleLine ∧ (ownCommit src
    a s).1.fieldLine = s.fieldLine ∧ (ownCommit src a s).1.role = s.role ∧ (ownCommit src a s).1.clock =
    s.clock ∧ (ownCommit src a s).1.framer = s.framer ∧ (ownCommit src a s).1.sup = s.sup ∧ (ownCommit src a
    s).1.radio = s.radio ∧ (ownCommit src a s).1.time = s.time ∧ (ownCommit src a s).1.rejoin = s.rejoin ∧
    (ownCommit src a s).1.storm = s.storm ∧ (ownCommit src a s).1.holdUp = s.holdUp ∧ (ownCommit src a
    s).1.sweep = s.sweep ∧ (ownCommit src a s).1.ports = s.ports ∧ (ownCommit src a s).1.out = s.out := by
  unfold ownCommit; repeat' split
  all_goals simp

@[simp] theorem ownAbortSwitch_frame :
    (ownAbortSwitch s).1.pending = s.pending ∧ (ownAbortSwitch s).1.roleLine = s.roleLine ∧ (ownAbortSwitch
    s).1.fieldLine = s.fieldLine ∧ (ownAbortSwitch s).1.role = s.role ∧ (ownAbortSwitch s).1.clock = s.clock
    ∧ (ownAbortSwitch s).1.plan = s.plan ∧ (ownAbortSwitch s).1.framer = s.framer ∧ (ownAbortSwitch s).1.sup
    = s.sup ∧ (ownAbortSwitch s).1.radio = s.radio ∧ (ownAbortSwitch s).1.time = s.time ∧ (ownAbortSwitch
    s).1.rejoin = s.rejoin ∧ (ownAbortSwitch s).1.storm = s.storm ∧ (ownAbortSwitch s).1.holdUp = s.holdUp ∧
    (ownAbortSwitch s).1.sweep = s.sweep ∧ (ownAbortSwitch s).1.ports = s.ports ∧ (ownAbortSwitch s).1.out =
    s.out := by
  unfold ownAbortSwitch; split <;> simp

@[simp] theorem ownPathEnable_frame (p v : Byte) :
    (ownPathEnable p v s).1.pending = s.pending ∧ (ownPathEnable p v s).1.roleLine = s.roleLine ∧
    (ownPathEnable p v s).1.fieldLine = s.fieldLine ∧ (ownPathEnable p v s).1.role = s.role ∧ (ownPathEnable
    p v s).1.plan = s.plan ∧ (ownPathEnable p v s).1.radio = s.radio ∧ (ownPathEnable p v s).1.rejoin =
    s.rejoin ∧ (ownPathEnable p v s).1.storm = s.storm ∧ (ownPathEnable p v s).1.holdUp = s.holdUp ∧
    (ownPathEnable p v s).1.ports = s.ports ∧ (ownPathEnable p v s).1.out = s.out := by
  unfold ownPathEnable; split <;> simp

@[simp] theorem writePath_frame (p : Path) (e : PathEnums) (a : PathArgs) :
    (writePath p e a s).pending = s.pending ∧ (writePath p e a s).roleLine = s.roleLine ∧ (writePath p e a
    s).fieldLine = s.fieldLine ∧ (writePath p e a s).role = s.role ∧ (writePath p e a s).clock = s.clock ∧
    (writePath p e a s).plan = s.plan ∧ (writePath p e a s).disp = s.disp ∧ (writePath p e a s).radio =
    s.radio ∧ (writePath p e a s).time = s.time ∧ (writePath p e a s).rejoin = s.rejoin ∧ (writePath p e a
    s).storm = s.storm ∧ (writePath p e a s).holdUp = s.holdUp ∧ (writePath p e a s).switch = s.switch ∧
    (writePath p e a s).sweep = s.sweep ∧ (writePath p e a s).ports = s.ports ∧ (writePath p e a s).ev =
    s.ev ∧ (writePath p e a s).out = s.out := by
  simp [writePath]

@[simp] theorem ownSetPath_frame (a : PathArgs) :
    (ownSetPath a s).1.pending = s.pending ∧ (ownSetPath a s).1.roleLine = s.roleLine ∧ (ownSetPath a
    s).1.fieldLine = s.fieldLine ∧ (ownSetPath a s).1.role = s.role ∧ (ownSetPath a s).1.clock = s.clock ∧
    (ownSetPath a s).1.plan = s.plan ∧ (ownSetPath a s).1.disp = s.disp ∧ (ownSetPath a s).1.radio = s.radio
    ∧ (ownSetPath a s).1.time = s.time ∧ (ownSetPath a s).1.rejoin = s.rejoin ∧ (ownSetPath a s).1.storm =
    s.storm ∧ (ownSetPath a s).1.holdUp = s.holdUp ∧ (ownSetPath a s).1.switch = s.switch ∧ (ownSetPath a
    s).1.sweep = s.sweep ∧ (ownSetPath a s).1.ports = s.ports ∧ (ownSetPath a s).1.ev = s.ev ∧ (ownSetPath a
    s).1.out = s.out := by
  unfold ownSetPath; split <;> simp

@[simp] theorem setIdle_frame (n : Nat) :
    (setIdle n s).pending = s.pending ∧ (setIdle n s).roleLine = s.roleLine ∧ (setIdle n s).fieldLine =
    s.fieldLine ∧ (setIdle n s).role = s.role ∧ (setIdle n s).clock = s.clock ∧ (setIdle n s).plan = s.plan
    ∧ (setIdle n s).disp = s.disp ∧ (setIdle n s).framer = s.framer ∧ (setIdle n s).sup = s.sup ∧ (setIdle n
    s).time = s.time ∧ (setIdle n s).rejoin = s.rejoin ∧ (setIdle n s).storm = s.storm ∧ (setIdle n
    s).holdUp = s.holdUp ∧ (setIdle n s).switch = s.switch ∧ (setIdle n s).sweep = s.sweep ∧ (setIdle n
    s).ports = s.ports ∧ (setIdle n s).ev = s.ev ∧ (setIdle n s).out = s.out := by
  unfold setIdle; split <;> simp

@[simp] theorem setStandby_frame (n : Nat) :
    (setStandby n s).pending = s.pending ∧ (setStandby n s).roleLine = s.roleLine ∧ (setStandby n
    s).fieldLine = s.fieldLine ∧ (setStandby n s).role = s.role ∧ (setStandby n s).clock = s.clock ∧
    (setStandby n s).plan = s.plan ∧ (setStandby n s).disp = s.disp ∧ (setStandby n s).framer = s.framer ∧
    (setStandby n s).sup = s.sup ∧ (setStandby n s).time = s.time ∧ (setStandby n s).rejoin = s.rejoin ∧
    (setStandby n s).storm = s.storm ∧ (setStandby n s).holdUp = s.holdUp ∧ (setStandby n s).switch =
    s.switch ∧ (setStandby n s).sweep = s.sweep ∧ (setStandby n s).ports = s.ports ∧ (setStandby n s).ev =
    s.ev ∧ (setStandby n s).out = s.out := by
  unfold setStandby; split <;> simp

@[simp] theorem ownSetRadioTimers_frame (a : RadioArgs) :
    (ownSetRadioTimers a s).1.pending = s.pending ∧ (ownSetRadioTimers a s).1.roleLine = s.roleLine ∧
    (ownSetRadioTimers a s).1.fieldLine = s.fieldLine ∧ (ownSetRadioTimers a s).1.role = s.role ∧
    (ownSetRadioTimers a s).1.clock = s.clock ∧ (ownSetRadioTimers a s).1.plan = s.plan ∧ (ownSetRadioTimers
    a s).1.disp = s.disp ∧ (ownSetRadioTimers a s).1.framer = s.framer ∧ (ownSetRadioTimers a s).1.sup =
    s.sup ∧ (ownSetRadioTimers a s).1.time = s.time ∧ (ownSetRadioTimers a s).1.rejoin = s.rejoin ∧
    (ownSetRadioTimers a s).1.storm = s.storm ∧ (ownSetRadioTimers a s).1.holdUp = s.holdUp ∧
    (ownSetRadioTimers a s).1.switch = s.switch ∧ (ownSetRadioTimers a s).1.sweep = s.sweep ∧
    (ownSetRadioTimers a s).1.ports = s.ports ∧ (ownSetRadioTimers a s).1.ev = s.ev ∧ (ownSetRadioTimers a
    s).1.out = s.out := by
  unfold ownSetRadioTimers; split
  · simp
  · cases a.idle <;> cases a.standby <;> simp [taking]

@[simp] theorem ownWakeRadio_frame :
    (ownWakeRadio s).1.pending = s.pending ∧ (ownWakeRadio s).1.roleLine = s.roleLine ∧ (ownWakeRadio
    s).1.fieldLine = s.fieldLine ∧ (ownWakeRadio s).1.role = s.role ∧ (ownWakeRadio s).1.clock = s.clock ∧
    (ownWakeRadio s).1.plan = s.plan ∧ (ownWakeRadio s).1.framer = s.framer ∧ (ownWakeRadio s).1.sup = s.sup
    ∧ (ownWakeRadio s).1.time = s.time ∧ (ownWakeRadio s).1.rejoin = s.rejoin ∧ (ownWakeRadio s).1.storm =
    s.storm ∧ (ownWakeRadio s).1.holdUp = s.holdUp ∧ (ownWakeRadio s).1.switch = s.switch ∧ (ownWakeRadio
    s).1.sweep = s.sweep ∧ (ownWakeRadio s).1.ports = s.ports ∧ (ownWakeRadio s).1.out = s.out := by
  unfold ownWakeRadio; split <;> simp

@[simp] theorem writeStorm_frame (e : Polarities) (a : StormArgs) :
    (writeStorm e a s).pending = s.pending ∧ (writeStorm e a s).roleLine = s.roleLine ∧ (writeStorm e a
    s).fieldLine = s.fieldLine ∧ (writeStorm e a s).role = s.role ∧ (writeStorm e a s).clock = s.clock ∧
    (writeStorm e a s).plan = s.plan ∧ (writeStorm e a s).disp = s.disp ∧ (writeStorm e a s).framer =
    s.framer ∧ (writeStorm e a s).sup = s.sup ∧ (writeStorm e a s).radio = s.radio ∧ (writeStorm e a s).time
    = s.time ∧ (writeStorm e a s).rejoin = s.rejoin ∧ (writeStorm e a s).holdUp = s.holdUp ∧ (writeStorm e a
    s).switch = s.switch ∧ (writeStorm e a s).sweep = s.sweep ∧ (writeStorm e a s).ports = s.ports ∧
    (writeStorm e a s).ev = s.ev ∧ (writeStorm e a s).out = s.out := by
  simp [writeStorm]

@[simp] theorem followPolarity_frame (x : Polarity) :
    (followPolarity x s).pending = s.pending ∧ (followPolarity x s).roleLine = s.roleLine ∧ (followPolarity
    x s).fieldLine = s.fieldLine ∧ (followPolarity x s).role = s.role ∧ (followPolarity x s).clock = s.clock
    ∧ (followPolarity x s).plan = s.plan ∧ (followPolarity x s).disp = s.disp ∧ (followPolarity x s).framer
    = s.framer ∧ (followPolarity x s).sup = s.sup ∧ (followPolarity x s).radio = s.radio ∧ (followPolarity x
    s).time = s.time ∧ (followPolarity x s).rejoin = s.rejoin ∧ (followPolarity x s).holdUp = s.holdUp ∧
    (followPolarity x s).switch = s.switch ∧ (followPolarity x s).sweep = s.sweep ∧ (followPolarity x
    s).ports = s.ports ∧ (followPolarity x s).ev = s.ev ∧ (followPolarity x s).out = s.out := by
  unfold followPolarity; split <;> simp

@[simp] theorem ownSetStorm_frame (a : StormArgs) :
    (ownSetStorm a s).1.pending = s.pending ∧ (ownSetStorm a s).1.roleLine = s.roleLine ∧ (ownSetStorm a
    s).1.fieldLine = s.fieldLine ∧ (ownSetStorm a s).1.role = s.role ∧ (ownSetStorm a s).1.clock = s.clock ∧
    (ownSetStorm a s).1.plan = s.plan ∧ (ownSetStorm a s).1.disp = s.disp ∧ (ownSetStorm a s).1.framer =
    s.framer ∧ (ownSetStorm a s).1.sup = s.sup ∧ (ownSetStorm a s).1.radio = s.radio ∧ (ownSetStorm a
    s).1.time = s.time ∧ (ownSetStorm a s).1.rejoin = s.rejoin ∧ (ownSetStorm a s).1.holdUp = s.holdUp ∧
    (ownSetStorm a s).1.switch = s.switch ∧ (ownSetStorm a s).1.sweep = s.sweep ∧ (ownSetStorm a s).1.ports
    = s.ports ∧ (ownSetStorm a s).1.ev = s.ev ∧ (ownSetStorm a s).1.out = s.out := by
  unfold ownSetStorm; split <;> simp

@[simp] theorem ownSweep_frame (p : Byte) :
    (ownSweep p s).1.pending = s.pending ∧ (ownSweep p s).1.roleLine = s.roleLine ∧ (ownSweep p
    s).1.fieldLine = s.fieldLine ∧ (ownSweep p s).1.role = s.role ∧ (ownSweep p s).1.plan = s.plan ∧
    (ownSweep p s).1.radio = s.radio ∧ (ownSweep p s).1.rejoin = s.rejoin ∧ (ownSweep p s).1.storm = s.storm
    ∧ (ownSweep p s).1.holdUp = s.holdUp ∧ (ownSweep p s).1.ports = s.ports ∧ (ownSweep p s).1.out = s.out := by
  unfold ownSweep; repeat' split
  all_goals simp

@[simp] theorem ownSuspendSweep_frame :
    (ownSuspendSweep s).1.pending = s.pending ∧ (ownSuspendSweep s).1.roleLine = s.roleLine ∧
    (ownSuspendSweep s).1.fieldLine = s.fieldLine ∧ (ownSuspendSweep s).1.role = s.role ∧ (ownSuspendSweep
    s).1.plan = s.plan ∧ (ownSuspendSweep s).1.framer = s.framer ∧ (ownSuspendSweep s).1.radio = s.radio ∧
    (ownSuspendSweep s).1.rejoin = s.rejoin ∧ (ownSuspendSweep s).1.storm = s.storm ∧ (ownSuspendSweep
    s).1.holdUp = s.holdUp ∧ (ownSuspendSweep s).1.ports = s.ports ∧ (ownSuspendSweep s).1.out = s.out := by
  unfold ownSuspendSweep; split <;> simp

@[simp] theorem ownResumeSweep_frame :
    (ownResumeSweep s).1.pending = s.pending ∧ (ownResumeSweep s).1.roleLine = s.roleLine ∧ (ownResumeSweep
    s).1.fieldLine = s.fieldLine ∧ (ownResumeSweep s).1.role = s.role ∧ (ownResumeSweep s).1.plan = s.plan ∧
    (ownResumeSweep s).1.radio = s.radio ∧ (ownResumeSweep s).1.rejoin = s.rejoin ∧ (ownResumeSweep
    s).1.storm = s.storm ∧ (ownResumeSweep s).1.holdUp = s.holdUp ∧ (ownResumeSweep s).1.ports = s.ports ∧
    (ownResumeSweep s).1.out = s.out := by
  unfold ownResumeSweep; repeat' split
  all_goals simp

@[simp] theorem abortCurrent_frame (b : Bool) :
    (abortCurrent b s).pending = s.pending ∧ (abortCurrent b s).roleLine = s.roleLine ∧ (abortCurrent b
    s).fieldLine = s.fieldLine ∧ (abortCurrent b s).role = s.role ∧ (abortCurrent b s).plan = s.plan ∧
    (abortCurrent b s).framer = s.framer ∧ (abortCurrent b s).radio = s.radio ∧ (abortCurrent b s).rejoin =
    s.rejoin ∧ (abortCurrent b s).storm = s.storm ∧ (abortCurrent b s).holdUp = s.holdUp ∧ (abortCurrent b
    s).ports = s.ports ∧ (abortCurrent b s).out = s.out := by
  unfold abortCurrent; split <;> simp

@[simp] theorem ownAbortSweep_frame :
    (ownAbortSweep s).1.pending = s.pending ∧ (ownAbortSweep s).1.roleLine = s.roleLine ∧ (ownAbortSweep
    s).1.fieldLine = s.fieldLine ∧ (ownAbortSweep s).1.role = s.role ∧ (ownAbortSweep s).1.plan = s.plan ∧
    (ownAbortSweep s).1.framer = s.framer ∧ (ownAbortSweep s).1.radio = s.radio ∧ (ownAbortSweep s).1.rejoin
    = s.rejoin ∧ (ownAbortSweep s).1.storm = s.storm ∧ (ownAbortSweep s).1.holdUp = s.holdUp ∧
    (ownAbortSweep s).1.ports = s.ports ∧ (ownAbortSweep s).1.out = s.out := by
  simp [ownAbortSweep]

@[simp] theorem startPending_frame :
    (startPending s).pending = s.pending ∧ (startPending s).roleLine = s.roleLine ∧ (startPending
    s).fieldLine = s.fieldLine ∧ (startPending s).role = s.role ∧ (startPending s).plan = s.plan ∧
    (startPending s).radio = s.radio ∧ (startPending s).rejoin = s.rejoin ∧ (startPending s).storm = s.storm
    ∧ (startPending s).holdUp = s.holdUp ∧ (startPending s).ports = s.ports ∧ (startPending s).out = s.out := by
  unfold startPending; repeat' split
  all_goals simp

@[simp] theorem enterParking_frame :
    (enterParking s).pending = s.pending ∧ (enterParking s).roleLine = s.roleLine ∧ (enterParking
    s).fieldLine = s.fieldLine ∧ (enterParking s).role = s.role ∧ (enterParking s).plan = s.plan ∧
    (enterParking s).framer = s.framer ∧ (enterParking s).radio = s.radio ∧ (enterParking s).rejoin =
    s.rejoin ∧ (enterParking s).holdUp = s.holdUp ∧ (enterParking s).ports = s.ports ∧ (enterParking s).out
    = s.out := by
  simp [enterParking]

@[simp] theorem ownPark_frame :
    (ownPark s).1.pending = s.pending ∧ (ownPark s).1.roleLine = s.roleLine ∧ (ownPark s).1.fieldLine =
    s.fieldLine ∧ (ownPark s).1.role = s.role ∧ (ownPark s).1.plan = s.plan ∧ (ownPark s).1.framer =
    s.framer ∧ (ownPark s).1.radio = s.radio ∧ (ownPark s).1.rejoin = s.rejoin ∧ (ownPark s).1.holdUp =
    s.holdUp ∧ (ownPark s).1.ports = s.ports ∧ (ownPark s).1.out = s.out := by
  unfold ownPark; split <;> simp

@[simp] theorem ownWake_frame :
    (ownWake s).1.pending = s.pending ∧ (ownWake s).1.roleLine = s.roleLine ∧ (ownWake s).1.fieldLine =
    s.fieldLine ∧ (ownWake s).1.role = s.role ∧ (ownWake s).1.plan = s.plan ∧ (ownWake s).1.radio = s.radio
    ∧ (ownWake s).1.rejoin = s.rejoin ∧ (ownWake s).1.holdUp = s.holdUp ∧ (ownWake s).1.ports = s.ports ∧
    (ownWake s).1.out = s.out := by
  unfold ownWake; split <;> simp

@[simp] theorem completePark_frame :
    (completePark s).pending = s.pending ∧ (completePark s).roleLine = s.roleLine ∧ (completePark
    s).fieldLine = s.fieldLine ∧ (completePark s).role = s.role ∧ (completePark s).plan = s.plan ∧
    (completePark s).radio = s.radio ∧ (completePark s).holdUp = s.holdUp ∧ (completePark s).ports = s.ports := by
  simp [completePark]

end Sys2Proof.Machine
end

