-- ==== Sys2Proof/Laws/PerInstr.lean ====
section
/-! SUPPORT. A fact of every row, proved row by row: a row has a source exactly where it answers with a response, and then
its code names a command of section 9.6. -/

namespace Sys2Proof.Laws.Named

open Sys2Proof.Machine

/-- The row's source is the source that answers it, and the code it is answered under names a command (R170, R173). -/
def Statement (i : Instr) : Prop :=
  i.source = (portRow i).map (fun row => row.2.2) ∧
    ((portRow i).all fun row => namesCommand row.1 && decide (row.2.1 = anyRank ∨ row.2.1 < 4)) = true

theorem fetch (port : Port) : Statement (.fetch port) := by
  constructor <;> rfl

theorem status (src : Source) : Statement (.status src) := by
  constructor <;> rfl

theorem reset (src : Source) : Statement (.reset src) := by
  constructor <;> rfl

theorem setRank (src : Source) (requester rank : Byte) : Statement (.setRank src requester rank) := by
  constructor <;> rfl

theorem pin (src : Source) : Statement (.pin src) := by
  constructor <;> rfl

theorem unpin (src : Source) : Statement (.unpin src) := by
  constructor <;> rfl

theorem claim (src : Source) (args : ClaimArgs) : Statement (.claim src args) := by
  constructor <;> rfl

theorem release (src : Source) : Statement (.release src) := by
  constructor <;> rfl

theorem setStream (src : Source) (index : Byte) (args : StreamArgs) : Statement (.setStream src index args) := by
  constructor <;> rfl

theorem clearStream (src : Source) (index : Byte) : Statement (.clearStream src index) := by
  constructor <;> rfl

theorem revert (src : Source) : Statement (.revert src) := by
  constructor <;> rfl

theorem commit (src : Source) (args : CommitArgs) : Statement (.commit src args) := by
  constructor <;> rfl

theorem abortSwitch (src : Source) : Statement (.abortSwitch src) := by
  constructor <;> rfl

theorem readStream (src : Source) (index copy : Byte) : Statement (.readStream src index copy) := by
  constructor <;> rfl

theorem readWindow (src : Source) (index : Byte) (start : BitVec 16) (count : Byte) : Statement (.readWindow src index start count) := by
  constructor <;> rfl

theorem readPath (src : Source) (path : Byte) : Statement (.readPath src path) := by
  constructor <;> rfl

theorem readCounters (src : Source) (args : CounterArgs) : Statement (.readCounters src args) := by
  constructor <;> rfl

theorem readEvents (src : Source) : Statement (.readEvents src) := by
  constructor <;> rfl

theorem clearEvents (src : Source) (kinds : BitVec 32) : Statement (.clearEvents src kinds) := by
  constructor <;> rfl

theorem setEnables (src : Source) (kinds : BitVec 32) : Statement (.setEnables src kinds) := by
  constructor <;> rfl

theorem readSweep (src : Source) : Statement (.readSweep src) := by
  constructor <;> rfl

theorem readSwitch (src : Source) : Statement (.readSwitch src) := by
  constructor <;> rfl

theorem tunnel (src : Source) (inner : List Byte) : Statement (.tunnel src inner) := by
  constructor <;> rfl

theorem pathEnable (src : Source) (path value : Byte) : Statement (.pathEnable src path value) := by
  constructor <;> rfl

theorem setPath (src : Source) (args : PathArgs) : Statement (.setPath src args) := by
  constructor <;> rfl

theorem setRadioTimers (src : Source) (args : RadioArgs) : Statement (.setRadioTimers src args) := by
  constructor <;> rfl

theorem wakeRadio (src : Source) : Statement (.wakeRadio src) := by
  constructor <;> rfl

theorem setStorm (src : Source) (args : StormArgs) : Statement (.setStorm src args) := by
  constructor <;> rfl

theorem park (src : Source) : Statement (.park src) := by
  constructor <;> rfl

theorem wake (src : Source) : Statement (.wake src) := by
  constructor <;> rfl

theorem sweep (src : Source) (path : Byte) : Statement (.sweep src path) := by
  constructor <;> rfl

theorem suspendSweep (src : Source) : Statement (.suspendSweep src) := by
  constructor <;> rfl

theorem resumeSweep (src : Source) : Statement (.resumeSweep src) := by
  constructor <;> rfl

theorem abortSweep (src : Source) : Statement (.abortSweep src) := by
  constructor <;> rfl

theorem frameDiscarded (port : Port) : Statement (.frameDiscarded port) := by
  constructor <;> rfl

theorem unknownCommand (port : Port) (code : Byte) : Statement (.unknownCommand port code) := by
  constructor <;> rfl

theorem powerOnReset (roleLine : Role) : Statement (.powerOnReset roleLine) := by
  constructor <;> rfl

theorem brownoutReset (roleLine : Role) : Statement (.brownoutReset roleLine) := by
  constructor <;> rfl

theorem resetPendingDrained : Statement (.resetPendingDrained) := by
  constructor <;> rfl

theorem resetPendingLimit : Statement (.resetPendingLimit) := by
  constructor <;> rfl

theorem ingressCell (stream : StreamIx) (payload : List Byte) : Statement (.ingressCell stream payload) := by
  constructor <;> rfl

theorem outboxMove : Statement (.outboxMove) := by
  constructor <;> rfl

theorem superframeStart : Statement (.superframeStart) := by
  constructor <;> rfl

theorem slotStart (path : Path) : Statement (.slotStart path) := by
  constructor <;> rfl

theorem headerReceived (path : Path) (arrival : HeaderArrival) : Statement (.headerReceived path arrival) := by
  constructor <;> rfl

theorem headerMissing (path : Path) : Statement (.headerMissing path) := by
  constructor <;> rfl

theorem epochSplit (path : Path) (arrival : HeaderArrival) : Statement (.epochSplit path arrival) := by
  constructor <;> rfl

theorem acquisitionComplete (path : Path) (arrival : HeaderArrival) : Statement (.acquisitionComplete path arrival) := by
  constructor <;> rfl

theorem alignmentLoss (path : Path) (event : RxEvent) : Statement (.alignmentLoss path event) := by
  constructor <;> rfl

theorem blockJudged (path : Path) (block : BlockArrival) : Statement (.blockJudged path block) := by
  constructor <;> rfl

theorem probationComplete (path : Path) (event : RxEvent) : Statement (.probationComplete path event) := by
  constructor <;> rfl

theorem recoveryComplete (path : Path) (event : RxEvent) : Statement (.recoveryComplete path event) := by
  constructor <;> rfl

theorem resync (path : Path) (quality : Quality) (copy : CellArrival) : Statement (.resync path quality copy) := by
  constructor <;> rfl

theorem releaseEvent (stream : StreamIx) : Statement (.releaseEvent stream) := by
  constructor <;> rfl

theorem switchDeadline : Statement (.switchDeadline) := by
  constructor <;> rfl

theorem planSwitch : Statement (.planSwitch) := by
  constructor <;> rfl

theorem claimLapse : Statement (.claimLapse) := by
  constructor <;> rfl

theorem idleTimerExpiry : Statement (.idleTimerExpiry) := by
  constructor <;> rfl

theorem standbyTimerExpiry : Statement (.standbyTimerExpiry) := by
  constructor <;> rfl

theorem warmupTimerExpiry : Statement (.warmupTimerExpiry) := by
  constructor <;> rfl

theorem shelterTimerExpiry (path : Path) : Statement (.shelterTimerExpiry path) := by
  constructor <;> rfl

theorem fieldChange (lineHigh : Bool) : Statement (.fieldChange lineHigh) := by
  constructor <;> rfl

theorem fieldDebounceExpiry : Statement (.fieldDebounceExpiry) := by
  constructor <;> rfl

theorem flashEdge : Statement (.flashEdge) := by
  constructor <;> rfl

theorem surgeEdge : Statement (.surgeEdge) := by
  constructor <;> rfl

theorem strikeTimerExpiry : Statement (.strikeTimerExpiry) := by
  constructor <;> rfl

theorem stormClearTimerExpiry : Statement (.stormClearTimerExpiry) := by
  constructor <;> rfl

theorem watchClearTimerExpiry : Statement (.watchClearTimerExpiry) := by
  constructor <;> rfl

theorem peerForget : Statement (.peerForget) := by
  constructor <;> rfl

theorem parkComplete : Statement (.parkComplete) := by
  constructor <;> rfl

theorem parkingLimit : Statement (.parkingLimit) := by
  constructor <;> rfl

theorem sweepPendingStart : Statement (.sweepPendingStart) := by
  constructor <;> rfl

theorem sweepStepComplete (path : Path) (event : RxEvent) : Statement (.sweepStepComplete path event) := by
  constructor <;> rfl

theorem tunnelTimeout (port : Port) : Statement (.tunnelTimeout port) := by
  constructor <;> rfl

end Sys2Proof.Laws.Named
end

