-- ==== Sys2Proof/Laws/PortFrames.lean ====
section
/-! SUPPORT. What the ports, the deliveries, the timers and the work of a superframe start leave unchanged. -/

namespace Sys2Proof.Machine

variable (s : State)

@[simp] theorem placeRecord_frame (p : Port) (r : Record) :
    (placeRecord p r s).pending = s.pending ∧ (placeRecord p r s).roleLine = s.roleLine ∧ (placeRecord p r
    s).fieldLine = s.fieldLine ∧ (placeRecord p r s).role = s.role ∧ (placeRecord p r s).clock = s.clock ∧
    (placeRecord p r s).plan = s.plan ∧ (placeRecord p r s).disp = s.disp ∧ (placeRecord p r s).framer =
    s.framer ∧ (placeRecord p r s).sup = s.sup ∧ (placeRecord p r s).radio = s.radio ∧ (placeRecord p r
    s).time = s.time ∧ (placeRecord p r s).rejoin = s.rejoin ∧ (placeRecord p r s).storm = s.storm ∧
    (placeRecord p r s).holdUp = s.holdUp ∧ (placeRecord p r s).switch = s.switch ∧ (placeRecord p r
    s).sweep = s.sweep ∧ (placeRecord p r s).ev = s.ev ∧ (placeRecord p r s).out = s.out := by
  simp [placeRecord]

@[simp] theorem fetchRecord_frame (p : Port) :
    (fetchRecord p s).pending = s.pending ∧ (fetchRecord p s).roleLine = s.roleLine ∧ (fetchRecord p
    s).fieldLine = s.fieldLine ∧ (fetchRecord p s).role = s.role ∧ (fetchRecord p s).clock = s.clock ∧
    (fetchRecord p s).plan = s.plan ∧ (fetchRecord p s).disp = s.disp ∧ (fetchRecord p s).framer = s.framer
    ∧ (fetchRecord p s).sup = s.sup ∧ (fetchRecord p s).radio = s.radio ∧ (fetchRecord p s).time = s.time ∧
    (fetchRecord p s).rejoin = s.rejoin ∧ (fetchRecord p s).storm = s.storm ∧ (fetchRecord p s).holdUp =
    s.holdUp ∧ (fetchRecord p s).switch = s.switch ∧ (fetchRecord p s).sweep = s.sweep ∧ (fetchRecord p
    s).ev = s.ev ∧ (fetchRecord p s).out = s.out := by
  simp [fetchRecord]

@[simp] theorem placeAll_frame (ms : List OutMsg) :
    (placeAll ms s).pending = s.pending ∧ (placeAll ms s).roleLine = s.roleLine ∧ (placeAll ms s).fieldLine
    = s.fieldLine ∧ (placeAll ms s).role = s.role ∧ (placeAll ms s).clock = s.clock ∧ (placeAll ms s).plan =
    s.plan ∧ (placeAll ms s).framer = s.framer ∧ (placeAll ms s).sup = s.sup ∧ (placeAll ms s).radio =
    s.radio ∧ (placeAll ms s).time = s.time ∧ (placeAll ms s).rejoin = s.rejoin ∧ (placeAll ms s).storm =
    s.storm ∧ (placeAll ms s).holdUp = s.holdUp ∧ (placeAll ms s).switch = s.switch ∧ (placeAll ms s).sweep
    = s.sweep ∧ (placeAll ms s).ports = s.ports ∧ (placeAll ms s).ev = s.ev ∧ (placeAll ms s).out = s.out := by
  unfold placeAll
  induction ms generalizing s with
  | nil => simp
  | cons m ms ih => simp [ih]

@[simp] theorem respondPt_frame (n : Nat) (ms : List OutMsg) :
    (respondPt n ms s).pending = s.pending ∧ (respondPt n ms s).roleLine = s.roleLine ∧ (respondPt n ms
    s).fieldLine = s.fieldLine ∧ (respondPt n ms s).role = s.role ∧ (respondPt n ms s).clock = s.clock ∧
    (respondPt n ms s).plan = s.plan ∧ (respondPt n ms s).framer = s.framer ∧ (respondPt n ms s).sup = s.sup
    ∧ (respondPt n ms s).radio = s.radio ∧ (respondPt n ms s).time = s.time ∧ (respondPt n ms s).rejoin =
    s.rejoin ∧ (respondPt n ms s).storm = s.storm ∧ (respondPt n ms s).holdUp = s.holdUp ∧ (respondPt n ms
    s).switch = s.switch ∧ (respondPt n ms s).sweep = s.sweep ∧ (respondPt n ms s).ev = s.ev ∧ (respondPt n
    ms s).out = s.out := by
  simp [respondPt]

@[simp] theorem countExecuted_frame :
    (countExecuted s).pending = s.pending ∧ (countExecuted s).roleLine = s.roleLine ∧ (countExecuted
    s).fieldLine = s.fieldLine ∧ (countExecuted s).role = s.role ∧ (countExecuted s).clock = s.clock ∧
    (countExecuted s).plan = s.plan ∧ (countExecuted s).disp = s.disp ∧ (countExecuted s).framer = s.framer
    ∧ (countExecuted s).sup = s.sup ∧ (countExecuted s).radio = s.radio ∧ (countExecuted s).time = s.time ∧
    (countExecuted s).rejoin = s.rejoin ∧ (countExecuted s).storm = s.storm ∧ (countExecuted s).holdUp =
    s.holdUp ∧ (countExecuted s).switch = s.switch ∧ (countExecuted s).sweep = s.sweep ∧ (countExecuted
    s).ev = s.ev ∧ (countExecuted s).out = s.out := by
  simp [countExecuted]

@[simp] theorem received_frame (src : Source) :
    (received src s).pending = s.pending ∧ (received src s).roleLine = s.roleLine ∧ (received src
    s).fieldLine = s.fieldLine ∧ (received src s).role = s.role ∧ (received src s).clock = s.clock ∧
    (received src s).plan = s.plan ∧ (received src s).disp = s.disp ∧ (received src s).framer = s.framer ∧
    (received src s).sup = s.sup ∧ (received src s).radio = s.radio ∧ (received src s).time = s.time ∧
    (received src s).rejoin = s.rejoin ∧ (received src s).storm = s.storm ∧ (received src s).holdUp =
    s.holdUp ∧ (received src s).switch = s.switch ∧ (received src s).sweep = s.sweep ∧ (received src s).ev =
    s.ev ∧ (received src s).out = s.out := by
  unfold received; split <;> simp

@[simp] theorem respond_frame (src : Source) (c : Byte) (a : Answer) (b : State) :
    (respond src c a b s).pending = s.pending ∧ (respond src c a b s).roleLine = s.roleLine ∧ (respond src c
    a b s).fieldLine = s.fieldLine ∧ (respond src c a b s).role = s.role ∧ (respond src c a b s).clock =
    s.clock ∧ (respond src c a b s).plan = s.plan ∧ (respond src c a b s).framer = s.framer ∧ (respond src c
    a b s).sup = s.sup ∧ (respond src c a b s).radio = s.radio ∧ (respond src c a b s).time = s.time ∧
    (respond src c a b s).rejoin = s.rejoin ∧ (respond src c a b s).storm = s.storm ∧ (respond src c a b
    s).holdUp = s.holdUp ∧ (respond src c a b s).switch = s.switch ∧ (respond src c a b s).sweep = s.sweep ∧
    (respond src c a b s).ev = s.ev ∧ (respond src c a b s).out = s.out := by
  unfold respond; split <;> simp

@[simp] theorem ownSetRank_frame (q k : Byte) :
    (ownSetRank q k s).1.pending = s.pending ∧ (ownSetRank q k s).1.roleLine = s.roleLine ∧ (ownSetRank q k
    s).1.fieldLine = s.fieldLine ∧ (ownSetRank q k s).1.role = s.role ∧ (ownSetRank q k s).1.clock = s.clock
    ∧ (ownSetRank q k s).1.plan = s.plan ∧ (ownSetRank q k s).1.disp = s.disp ∧ (ownSetRank q k s).1.framer
    = s.framer ∧ (ownSetRank q k s).1.sup = s.sup ∧ (ownSetRank q k s).1.radio = s.radio ∧ (ownSetRank q k
    s).1.time = s.time ∧ (ownSetRank q k s).1.rejoin = s.rejoin ∧ (ownSetRank q k s).1.storm = s.storm ∧
    (ownSetRank q k s).1.holdUp = s.holdUp ∧ (ownSetRank q k s).1.switch = s.switch ∧ (ownSetRank q k
    s).1.sweep = s.sweep ∧ (ownSetRank q k s).1.ev = s.ev ∧ (ownSetRank q k s).1.out = s.out := by
  unfold ownSetRank; repeat' split
  all_goals simp

@[simp] theorem ownClearEvents_frame (src : Source) (k : BitVec 32) :
    (ownClearEvents src k s).1.pending = s.pending ∧ (ownClearEvents src k s).1.roleLine = s.roleLine ∧
    (ownClearEvents src k s).1.fieldLine = s.fieldLine ∧ (ownClearEvents src k s).1.role = s.role ∧
    (ownClearEvents src k s).1.clock = s.clock ∧ (ownClearEvents src k s).1.plan = s.plan ∧ (ownClearEvents
    src k s).1.framer = s.framer ∧ (ownClearEvents src k s).1.sup = s.sup ∧ (ownClearEvents src k s).1.radio
    = s.radio ∧ (ownClearEvents src k s).1.time = s.time ∧ (ownClearEvents src k s).1.rejoin = s.rejoin ∧
    (ownClearEvents src k s).1.storm = s.storm ∧ (ownClearEvents src k s).1.holdUp = s.holdUp ∧
    (ownClearEvents src k s).1.switch = s.switch ∧ (ownClearEvents src k s).1.sweep = s.sweep ∧
    (ownClearEvents src k s).1.ports = s.ports ∧ (ownClearEvents src k s).1.out = s.out := by
  unfold ownClearEvents; split <;> simp

@[simp] theorem ownSetEnables_frame (src : Source) (k : BitVec 32) :
    (ownSetEnables src k s).1.pending = s.pending ∧ (ownSetEnables src k s).1.roleLine = s.roleLine ∧
    (ownSetEnables src k s).1.fieldLine = s.fieldLine ∧ (ownSetEnables src k s).1.role = s.role ∧
    (ownSetEnables src k s).1.clock = s.clock ∧ (ownSetEnables src k s).1.plan = s.plan ∧ (ownSetEnables src
    k s).1.framer = s.framer ∧ (ownSetEnables src k s).1.sup = s.sup ∧ (ownSetEnables src k s).1.radio =
    s.radio ∧ (ownSetEnables src k s).1.time = s.time ∧ (ownSetEnables src k s).1.rejoin = s.rejoin ∧
    (ownSetEnables src k s).1.storm = s.storm ∧ (ownSetEnables src k s).1.holdUp = s.holdUp ∧ (ownSetEnables
    src k s).1.switch = s.switch ∧ (ownSetEnables src k s).1.sweep = s.sweep ∧ (ownSetEnables src k
    s).1.ports = s.ports ∧ (ownSetEnables src k s).1.out = s.out := by
  unfold ownSetEnables; split <;> simp

@[simp] theorem clearGroup_frame (g : CounterGroup) :
    (clearGroup s g).pending = s.pending ∧ (clearGroup s g).roleLine = s.roleLine ∧ (clearGroup s
    g).fieldLine = s.fieldLine ∧ (clearGroup s g).role = s.role ∧ (clearGroup s g).clock = s.clock ∧
    (clearGroup s g).plan = s.plan ∧ (clearGroup s g).radio = s.radio ∧ (clearGroup s g).holdUp = s.holdUp ∧
    (clearGroup s g).sweep = s.sweep ∧ (clearGroup s g).ev = s.ev ∧ (clearGroup s g).out = s.out := by
  cases g <;> simp [clearGroup, clearDispatch, clearFraming, clearSupervision, clearRejoin, clearStorm,
    clearSwitch, clearPorts]

@[simp] theorem ownReadCounters_frame (a : CounterArgs) :
    (ownReadCounters a s).1.pending = s.pending ∧ (ownReadCounters a s).1.roleLine = s.roleLine ∧
    (ownReadCounters a s).1.fieldLine = s.fieldLine ∧ (ownReadCounters a s).1.role = s.role ∧
    (ownReadCounters a s).1.clock = s.clock ∧ (ownReadCounters a s).1.plan = s.plan ∧ (ownReadCounters a
    s).1.radio = s.radio ∧ (ownReadCounters a s).1.holdUp = s.holdUp ∧ (ownReadCounters a s).1.sweep =
    s.sweep ∧ (ownReadCounters a s).1.ev = s.ev ∧ (ownReadCounters a s).1.out = s.out := by
  unfold ownReadCounters; repeat' split
  all_goals simp

@[simp] theorem countUnknown_frame (p : Port) :
    (countUnknown p s).pending = s.pending ∧ (countUnknown p s).roleLine = s.roleLine ∧ (countUnknown p
    s).fieldLine = s.fieldLine ∧ (countUnknown p s).role = s.role ∧ (countUnknown p s).clock = s.clock ∧
    (countUnknown p s).plan = s.plan ∧ (countUnknown p s).disp = s.disp ∧ (countUnknown p s).framer =
    s.framer ∧ (countUnknown p s).sup = s.sup ∧ (countUnknown p s).radio = s.radio ∧ (countUnknown p s).time
    = s.time ∧ (countUnknown p s).rejoin = s.rejoin ∧ (countUnknown p s).storm = s.storm ∧ (countUnknown p
    s).holdUp = s.holdUp ∧ (countUnknown p s).switch = s.switch ∧ (countUnknown p s).sweep = s.sweep ∧
    (countUnknown p s).ev = s.ev ∧ (countUnknown p s).out = s.out := by
  simp [countUnknown]

@[simp] theorem openTunnel_frame (p : Port) (b : List Byte) :
    (openTunnel p b s).pending = s.pending ∧ (openTunnel p b s).roleLine = s.roleLine ∧ (openTunnel p b
    s).fieldLine = s.fieldLine ∧ (openTunnel p b s).role = s.role ∧ (openTunnel p b s).clock = s.clock ∧
    (openTunnel p b s).plan = s.plan ∧ (openTunnel p b s).framer = s.framer ∧ (openTunnel p b s).sup = s.sup
    ∧ (openTunnel p b s).radio = s.radio ∧ (openTunnel p b s).time = s.time ∧ (openTunnel p b s).rejoin =
    s.rejoin ∧ (openTunnel p b s).storm = s.storm ∧ (openTunnel p b s).holdUp = s.holdUp ∧ (openTunnel p b
    s).switch = s.switch ∧ (openTunnel p b s).sweep = s.sweep ∧ (openTunnel p b s).ev = s.ev ∧ (openTunnel p
    b s).out = s.out := by
  simp [openTunnel]

@[simp] theorem takeTunnel_frame (p : Port) (b : List Byte) :
    (takeTunnel p b s).pending = s.pending ∧ (takeTunnel p b s).roleLine = s.roleLine ∧ (takeTunnel p b
    s).fieldLine = s.fieldLine ∧ (takeTunnel p b s).role = s.role ∧ (takeTunnel p b s).clock = s.clock ∧
    (takeTunnel p b s).plan = s.plan ∧ (takeTunnel p b s).framer = s.framer ∧ (takeTunnel p b s).sup = s.sup
    ∧ (takeTunnel p b s).radio = s.radio ∧ (takeTunnel p b s).time = s.time ∧ (takeTunnel p b s).rejoin =
    s.rejoin ∧ (takeTunnel p b s).storm = s.storm ∧ (takeTunnel p b s).holdUp = s.holdUp ∧ (takeTunnel p b
    s).switch = s.switch ∧ (takeTunnel p b s).sweep = s.sweep ∧ (takeTunnel p b s).ev = s.ev ∧ (takeTunnel p
    b s).out = s.out := by
  unfold takeTunnel; repeat' split
  all_goals simp

@[simp] theorem expireTunnel_frame (p : Port) (t : Tunnel) :
    (expireTunnel p t s).pending = s.pending ∧ (expireTunnel p t s).roleLine = s.roleLine ∧ (expireTunnel p
    t s).fieldLine = s.fieldLine ∧ (expireTunnel p t s).role = s.role ∧ (expireTunnel p t s).clock = s.clock
    ∧ (expireTunnel p t s).plan = s.plan ∧ (expireTunnel p t s).framer = s.framer ∧ (expireTunnel p t s).sup
    = s.sup ∧ (expireTunnel p t s).radio = s.radio ∧ (expireTunnel p t s).time = s.time ∧ (expireTunnel p t
    s).rejoin = s.rejoin ∧ (expireTunnel p t s).storm = s.storm ∧ (expireTunnel p t s).holdUp = s.holdUp ∧
    (expireTunnel p t s).switch = s.switch ∧ (expireTunnel p t s).sweep = s.sweep ∧ (expireTunnel p t s).ev
    = s.ev ∧ (expireTunnel p t s).out = s.out := by
  simp [expireTunnel]

@[simp] theorem takePart_frame (p : Port) (t : Tunnel) :
    (takePart p t s).pending = s.pending ∧ (takePart p t s).roleLine = s.roleLine ∧ (takePart p t
    s).fieldLine = s.fieldLine ∧ (takePart p t s).role = s.role ∧ (takePart p t s).clock = s.clock ∧
    (takePart p t s).plan = s.plan ∧ (takePart p t s).disp = s.disp ∧ (takePart p t s).framer = s.framer ∧
    (takePart p t s).sup = s.sup ∧ (takePart p t s).radio = s.radio ∧ (takePart p t s).time = s.time ∧
    (takePart p t s).rejoin = s.rejoin ∧ (takePart p t s).storm = s.storm ∧ (takePart p t s).holdUp =
    s.holdUp ∧ (takePart p t s).switch = s.switch ∧ (takePart p t s).sweep = s.sweep ∧ (takePart p t s).ev =
    s.ev ∧ (takePart p t s).out = s.out := by
  unfold takePart; split <;> simp

@[simp] theorem lateResponse_frame (p : Port) :
    (lateResponse p s).pending = s.pending ∧ (lateResponse p s).roleLine = s.roleLine ∧ (lateResponse p
    s).fieldLine = s.fieldLine ∧ (lateResponse p s).role = s.role ∧ (lateResponse p s).clock = s.clock ∧
    (lateResponse p s).plan = s.plan ∧ (lateResponse p s).disp = s.disp ∧ (lateResponse p s).framer =
    s.framer ∧ (lateResponse p s).sup = s.sup ∧ (lateResponse p s).radio = s.radio ∧ (lateResponse p s).time
    = s.time ∧ (lateResponse p s).rejoin = s.rejoin ∧ (lateResponse p s).storm = s.storm ∧ (lateResponse p
    s).holdUp = s.holdUp ∧ (lateResponse p s).switch = s.switch ∧ (lateResponse p s).sweep = s.sweep ∧
    (lateResponse p s).ev = s.ev ∧ (lateResponse p s).out = s.out := by
  simp [lateResponse]

@[simp] theorem takeResponse_frame (p : Port) (t n : Byte) (b : Bool) (d : List Byte) :
    (takeResponse p t n b d s).pending = s.pending ∧ (takeResponse p t n b d s).roleLine = s.roleLine ∧
    (takeResponse p t n b d s).fieldLine = s.fieldLine ∧ (takeResponse p t n b d s).role = s.role ∧
    (takeResponse p t n b d s).clock = s.clock ∧ (takeResponse p t n b d s).plan = s.plan ∧ (takeResponse p
    t n b d s).disp = s.disp ∧ (takeResponse p t n b d s).framer = s.framer ∧ (takeResponse p t n b d s).sup
    = s.sup ∧ (takeResponse p t n b d s).radio = s.radio ∧ (takeResponse p t n b d s).time = s.time ∧
    (takeResponse p t n b d s).rejoin = s.rejoin ∧ (takeResponse p t n b d s).storm = s.storm ∧
    (takeResponse p t n b d s).holdUp = s.holdUp ∧ (takeResponse p t n b d s).switch = s.switch ∧
    (takeResponse p t n b d s).sweep = s.sweep ∧ (takeResponse p t n b d s).ev = s.ev ∧ (takeResponse p t n
    b d s).out = s.out := by
  unfold takeResponse; repeat' split
  all_goals simp

@[simp] theorem unknownMessage_frame :
    (unknownMessage s).pending = s.pending ∧ (unknownMessage s).roleLine = s.roleLine ∧ (unknownMessage
    s).fieldLine = s.fieldLine ∧ (unknownMessage s).role = s.role ∧ (unknownMessage s).clock = s.clock ∧
    (unknownMessage s).plan = s.plan ∧ (unknownMessage s).disp = s.disp ∧ (unknownMessage s).framer =
    s.framer ∧ (unknownMessage s).sup = s.sup ∧ (unknownMessage s).radio = s.radio ∧ (unknownMessage s).time
    = s.time ∧ (unknownMessage s).storm = s.storm ∧ (unknownMessage s).holdUp = s.holdUp ∧ (unknownMessage
    s).switch = s.switch ∧ (unknownMessage s).sweep = s.sweep ∧ (unknownMessage s).ports = s.ports ∧
    (unknownMessage s).ev = s.ev ∧ (unknownMessage s).out = s.out := by
  simp [unknownMessage]

@[simp] theorem takeNotice_frame (k : BitVec 32) :
    (takeNotice k s).pending = s.pending ∧ (takeNotice k s).roleLine = s.roleLine ∧ (takeNotice k
    s).fieldLine = s.fieldLine ∧ (takeNotice k s).role = s.role ∧ (takeNotice k s).clock = s.clock ∧
    (takeNotice k s).plan = s.plan ∧ (takeNotice k s).framer = s.framer ∧ (takeNotice k s).sup = s.sup ∧
    (takeNotice k s).radio = s.radio ∧ (takeNotice k s).time = s.time ∧ (takeNotice k s).rejoin = s.rejoin ∧
    (takeNotice k s).storm = s.storm ∧ (takeNotice k s).holdUp = s.holdUp ∧ (takeNotice k s).switch =
    s.switch ∧ (takeNotice k s).sweep = s.sweep ∧ (takeNotice k s).ports = s.ports ∧ (takeNotice k s).out =
    s.out := by
  simp [takeNotice]

@[simp] theorem takeParking_frame (n : BitVec 16) :
    (takeParking n s).pending = s.pending ∧ (takeParking n s).roleLine = s.roleLine ∧ (takeParking n
    s).fieldLine = s.fieldLine ∧ (takeParking n s).role = s.role ∧ (takeParking n s).clock = s.clock ∧
    (takeParking n s).plan = s.plan ∧ (takeParking n s).disp = s.disp ∧ (takeParking n s).framer = s.framer
    ∧ (takeParking n s).sup = s.sup ∧ (takeParking n s).radio = s.radio ∧ (takeParking n s).time = s.time ∧
    (takeParking n s).rejoin = s.rejoin ∧ (takeParking n s).holdUp = s.holdUp ∧ (takeParking n s).switch =
    s.switch ∧ (takeParking n s).sweep = s.sweep ∧ (takeParking n s).ports = s.ports ∧ (takeParking n s).ev
    = s.ev ∧ (takeParking n s).out = s.out := by
  simp [takeParking]

@[simp] theorem deadlineStep_frame :
    (deadlineStep s).pending = s.pending ∧ (deadlineStep s).roleLine = s.roleLine ∧ (deadlineStep
    s).fieldLine = s.fieldLine ∧ (deadlineStep s).role = s.role ∧ (deadlineStep s).clock = s.clock ∧
    (deadlineStep s).plan = s.plan ∧ (deadlineStep s).framer = s.framer ∧ (deadlineStep s).sup = s.sup ∧
    (deadlineStep s).radio = s.radio ∧ (deadlineStep s).time = s.time ∧ (deadlineStep s).rejoin = s.rejoin ∧
    (deadlineStep s).storm = s.storm ∧ (deadlineStep s).holdUp = s.holdUp ∧ (deadlineStep s).sweep = s.sweep
    ∧ (deadlineStep s).ports = s.ports ∧ (deadlineStep s).out = s.out := by
  unfold deadlineStep; repeat' split
  all_goals simp

@[simp] theorem parkDrainedStep_frame :
    (parkDrainedStep s).pending = s.pending ∧ (parkDrainedStep s).roleLine = s.roleLine ∧ (parkDrainedStep
    s).fieldLine = s.fieldLine ∧ (parkDrainedStep s).role = s.role ∧ (parkDrainedStep s).plan = s.plan ∧
    (parkDrainedStep s).radio = s.radio ∧ (parkDrainedStep s).holdUp = s.holdUp ∧ (parkDrainedStep s).ports
    = s.ports := by
  unfold parkDrainedStep; split <;> simp

@[simp] theorem parkLimitStep_frame :
    (parkLimitStep s).pending = s.pending ∧ (parkLimitStep s).roleLine = s.roleLine ∧ (parkLimitStep
    s).fieldLine = s.fieldLine ∧ (parkLimitStep s).role = s.role ∧ (parkLimitStep s).plan = s.plan ∧
    (parkLimitStep s).radio = s.radio ∧ (parkLimitStep s).holdUp = s.holdUp ∧ (parkLimitStep s).ports =
    s.ports := by
  unfold parkLimitStep; split <;> simp

@[simp] theorem countStart_frame :
    (countStart s).pending = s.pending ∧ (countStart s).roleLine = s.roleLine ∧ (countStart s).fieldLine =
    s.fieldLine ∧ (countStart s).role = s.role ∧ (countStart s).clock = s.clock ∧ (countStart s).plan =
    s.plan ∧ (countStart s).disp = s.disp ∧ (countStart s).framer = s.framer ∧ (countStart s).sup = s.sup ∧
    (countStart s).radio = s.radio ∧ (countStart s).time = s.time ∧ (countStart s).rejoin = s.rejoin ∧
    (countStart s).holdUp = s.holdUp ∧ (countStart s).switch = s.switch ∧ (countStart s).sweep = s.sweep ∧
    (countStart s).ev = s.ev ∧ (countStart s).out = s.out := by
  simp [countStart]

@[simp] theorem superframeWork_frame :
    (superframeWork s).pending = s.pending ∧ (superframeWork s).roleLine = s.roleLine ∧ (superframeWork
    s).fieldLine = s.fieldLine ∧ (superframeWork s).role = s.role ∧ (superframeWork s).plan = s.plan ∧
    (superframeWork s).sup = s.sup ∧ (superframeWork s).radio = s.radio ∧ (superframeWork s).time = s.time ∧
    (superframeWork s).rejoin = s.rejoin ∧ (superframeWork s).storm = s.storm ∧ (superframeWork s).holdUp =
    s.holdUp ∧ (superframeWork s).sweep = s.sweep ∧ (superframeWork s).ports = s.ports ∧ (superframeWork
    s).ev = s.ev := by
  simp [superframeWork]

@[simp] theorem lapseStep_frame :
    (lapseStep s).pending = s.pending ∧ (lapseStep s).roleLine = s.roleLine ∧ (lapseStep s).fieldLine =
    s.fieldLine ∧ (lapseStep s).role = s.role ∧ (lapseStep s).clock = s.clock ∧ (lapseStep s).framer =
    s.framer ∧ (lapseStep s).sup = s.sup ∧ (lapseStep s).radio = s.radio ∧ (lapseStep s).time = s.time ∧
    (lapseStep s).rejoin = s.rejoin ∧ (lapseStep s).storm = s.storm ∧ (lapseStep s).holdUp = s.holdUp ∧
    (lapseStep s).switch = s.switch ∧ (lapseStep s).sweep = s.sweep ∧ (lapseStep s).ports = s.ports ∧
    (lapseStep s).out = s.out := by
  unfold lapseStep; split <;> simp

@[simp] theorem idleStep_frame :
    (idleStep s).pending = s.pending ∧ (idleStep s).roleLine = s.roleLine ∧ (idleStep s).fieldLine =
    s.fieldLine ∧ (idleStep s).role = s.role ∧ (idleStep s).clock = s.clock ∧ (idleStep s).plan = s.plan ∧
    (idleStep s).framer = s.framer ∧ (idleStep s).sup = s.sup ∧ (idleStep s).time = s.time ∧ (idleStep
    s).rejoin = s.rejoin ∧ (idleStep s).storm = s.storm ∧ (idleStep s).holdUp = s.holdUp ∧ (idleStep
    s).switch = s.switch ∧ (idleStep s).sweep = s.sweep ∧ (idleStep s).ports = s.ports ∧ (idleStep s).out =
    s.out := by
  unfold idleStep; split <;> simp

@[simp] theorem standbyStep_frame :
    (standbyStep s).pending = s.pending ∧ (standbyStep s).roleLine = s.roleLine ∧ (standbyStep s).fieldLine
    = s.fieldLine ∧ (standbyStep s).role = s.role ∧ (standbyStep s).plan = s.plan ∧ (standbyStep s).rejoin =
    s.rejoin ∧ (standbyStep s).storm = s.storm ∧ (standbyStep s).holdUp = s.holdUp ∧ (standbyStep s).ports =
    s.ports ∧ (standbyStep s).out = s.out := by
  unfold standbyStep; split <;> simp

@[simp] theorem warmupStep_frame :
    (warmupStep s).pending = s.pending ∧ (warmupStep s).roleLine = s.roleLine ∧ (warmupStep s).fieldLine =
    s.fieldLine ∧ (warmupStep s).role = s.role ∧ (warmupStep s).plan = s.plan ∧ (warmupStep s).rejoin =
    s.rejoin ∧ (warmupStep s).storm = s.storm ∧ (warmupStep s).holdUp = s.holdUp ∧ (warmupStep s).ports =
    s.ports ∧ (warmupStep s).out = s.out := by
  unfold warmupStep; split <;> simp

@[simp] theorem shelterStep_frame (p : Path) :
    (shelterStep p s).pending = s.pending ∧ (shelterStep p s).roleLine = s.roleLine ∧ (shelterStep p
    s).fieldLine = s.fieldLine ∧ (shelterStep p s).role = s.role ∧ (shelterStep p s).plan = s.plan ∧
    (shelterStep p s).radio = s.radio ∧ (shelterStep p s).rejoin = s.rejoin ∧ (shelterStep p s).storm =
    s.storm ∧ (shelterStep p s).holdUp = s.holdUp ∧ (shelterStep p s).ports = s.ports ∧ (shelterStep p
    s).out = s.out := by
  unfold shelterStep; split <;> simp

@[simp] theorem debounceStep_frame :
    (debounceStep s).pending = s.pending ∧ (debounceStep s).roleLine = s.roleLine ∧ (debounceStep
    s).fieldLine = s.fieldLine ∧ (debounceStep s).role = s.role ∧ (debounceStep s).plan = s.plan ∧
    (debounceStep s).rejoin = s.rejoin ∧ (debounceStep s).ports = s.ports ∧ (debounceStep s).out = s.out := by
  unfold debounceStep; split <;> simp

@[simp] theorem strikeStep_frame :
    (strikeStep s).pending = s.pending ∧ (strikeStep s).roleLine = s.roleLine ∧ (strikeStep s).fieldLine =
    s.fieldLine ∧ (strikeStep s).role = s.role ∧ (strikeStep s).plan = s.plan ∧ (strikeStep s).rejoin =
    s.rejoin ∧ (strikeStep s).ports = s.ports ∧ (strikeStep s).out = s.out := by
  unfold strikeStep; split <;> simp

@[simp] theorem stormClearStep_frame :
    (stormClearStep s).pending = s.pending ∧ (stormClearStep s).roleLine = s.roleLine ∧ (stormClearStep
    s).fieldLine = s.fieldLine ∧ (stormClearStep s).role = s.role ∧ (stormClearStep s).plan = s.plan ∧
    (stormClearStep s).rejoin = s.rejoin ∧ (stormClearStep s).ports = s.ports ∧ (stormClearStep s).out =
    s.out := by
  unfold stormClearStep; split <;> simp

@[simp] theorem watchClearStep_frame :
    (watchClearStep s).pending = s.pending ∧ (watchClearStep s).roleLine = s.roleLine ∧ (watchClearStep
    s).fieldLine = s.fieldLine ∧ (watchClearStep s).role = s.role ∧ (watchClearStep s).plan = s.plan ∧
    (watchClearStep s).rejoin = s.rejoin ∧ (watchClearStep s).ports = s.ports ∧ (watchClearStep s).out =
    s.out := by
  unfold watchClearStep; split <;> simp

@[simp] theorem forgetStep_frame :
    (forgetStep s).pending = s.pending ∧ (forgetStep s).roleLine = s.roleLine ∧ (forgetStep s).fieldLine =
    s.fieldLine ∧ (forgetStep s).role = s.role ∧ (forgetStep s).plan = s.plan ∧ (forgetStep s).framer =
    s.framer ∧ (forgetStep s).rejoin = s.rejoin ∧ (forgetStep s).holdUp = s.holdUp ∧ (forgetStep s).ports =
    s.ports ∧ (forgetStep s).out = s.out := by
  unfold forgetStep; split <;> simp

@[simp] theorem tunnelStep_frame (p : Port) :
    (tunnelStep p s).pending = s.pending ∧ (tunnelStep p s).roleLine = s.roleLine ∧ (tunnelStep p
    s).fieldLine = s.fieldLine ∧ (tunnelStep p s).role = s.role ∧ (tunnelStep p s).clock = s.clock ∧
    (tunnelStep p s).plan = s.plan ∧ (tunnelStep p s).framer = s.framer ∧ (tunnelStep p s).sup = s.sup ∧
    (tunnelStep p s).radio = s.radio ∧ (tunnelStep p s).time = s.time ∧ (tunnelStep p s).rejoin = s.rejoin ∧
    (tunnelStep p s).storm = s.storm ∧ (tunnelStep p s).holdUp = s.holdUp ∧ (tunnelStep p s).switch =
    s.switch ∧ (tunnelStep p s).sweep = s.sweep ∧ (tunnelStep p s).ev = s.ev ∧ (tunnelStep p s).out = s.out := by
  unfold tunnelStep; repeat' split
  all_goals simp

@[simp] theorem flashStep_frame :
    (flashStep s).pending = s.pending ∧ (flashStep s).roleLine = s.roleLine ∧ (flashStep s).fieldLine =
    s.fieldLine ∧ (flashStep s).role = s.role ∧ (flashStep s).plan = s.plan ∧ (flashStep s).rejoin =
    s.rejoin ∧ (flashStep s).ports = s.ports ∧ (flashStep s).out = s.out := by
  unfold flashStep; split <;> simp

@[simp] theorem surgeStep_frame :
    (surgeStep s).pending = s.pending ∧ (surgeStep s).roleLine = s.roleLine ∧ (surgeStep s).fieldLine =
    s.fieldLine ∧ (surgeStep s).role = s.role ∧ (surgeStep s).plan = s.plan ∧ (surgeStep s).rejoin =
    s.rejoin ∧ (surgeStep s).ports = s.ports ∧ (surgeStep s).out = s.out := by
  unfold surgeStep; split <;> simp

@[simp] theorem tickTimers_frame :
    (tickTimers s).pending = s.pending ∧ (tickTimers s).roleLine = s.roleLine ∧ (tickTimers s).fieldLine =
    s.fieldLine ∧ (tickTimers s).role = s.role ∧ (tickTimers s).clock = s.clock ∧ (tickTimers s).disp =
    s.disp ∧ (tickTimers s).framer = s.framer ∧ (tickTimers s).time = s.time ∧ (tickTimers s).rejoin =
    s.rejoin ∧ (tickTimers s).holdUp = s.holdUp ∧ (tickTimers s).switch = s.switch ∧ (tickTimers s).sweep =
    s.sweep ∧ (tickTimers s).ev = s.ev ∧ (tickTimers s).out = s.out := by
  simp [tickTimers]

@[simp] theorem passTime_frame :
    (passTime s).pending = s.pending ∧ (passTime s).roleLine = s.roleLine ∧ (passTime s).fieldLine = s.fieldLine ∧ (passTime s).role = s.role ∧ (passTime s).disp = s.disp ∧ (passTime s).framer = s.framer ∧ (passTime s).time = s.time ∧ (passTime s).rejoin = s.rejoin ∧ (passTime s).holdUp = s.holdUp ∧ (passTime s).switch = s.switch ∧ (passTime s).sweep =
    s.sweep ∧ (passTime s).ev = s.ev ∧ (passTime s).out = s.out := by
  unfold passTime; split <;> simp

@[simp] theorem tick_frame :
    (tick s).pending = s.pending ∧ (tick s).roleLine = s.roleLine ∧ (tick s).fieldLine = s.fieldLine ∧
    (tick s).role = s.role ∧ (tick s).disp = s.disp ∧ (tick s).time = s.time ∧ (tick s).rejoin = s.rejoin ∧
    (tick s).holdUp = s.holdUp ∧ (tick s).switch = s.switch ∧ (tick s).sweep = s.sweep ∧ (tick s).ev = s.ev := by
  simp [tick]

/-- What sending check bytes leaves to the clocks and timers. -/
theorem tick_clock : (tick s).clock = (passTime s).clock ∧ (tick s).ports = (passTime s).ports ∧
    (tick s).sup = (passTime s).sup ∧ (tick s).storm = (passTime s).storm ∧ (tick s).radio = (passTime s).radio ∧
    (tick s).plan = (passTime s).plan := by
  simp [tick]

end Sys2Proof.Machine
end

