-- ==== Sys2Proof/Laws/Serve.lean ====
section
/-! SUPPORT. What a command does at its port: it passes the checks of R173 and its owner's answer goes out, or it fails one
and nothing but its response happens. -/

namespace Sys2Proof.Machine

@[simp] theorem received_lp (p : Port) (s : State) : received (.lp p) s = s := rfl

@[simp] theorem received_pt (p : Port) (r t : Byte) (s : State) : received (.pt p r t) s = countExecuted s := rfl

@[simp] theorem received_ranks (src : Source) (s : State) : (received src s).ports.ranks = s.ports.ranks := by
  cases src <;> rfl

@[simp] theorem received_lpPorts (src : Source) (s : State) : (received src s).ports.lp = s.ports.lp := by
  cases src <;> rfl

@[simp] theorem received_resetPending (src : Source) (s : State) :
    (received src s).ports.resetPending = s.ports.resetPending := by
  cases src <;> rfl

/-- Counting a request executed for PT changes none of the checks. -/
@[simp] theorem portRefusal_received (code : Byte) (need : Nat) (src src' : Source) (s : State) :
    portRefusal code need src (received src' s) = portRefusal code need src s := by
  cases src' <;> cases src <;> rfl

/-- A command that passes the conditions of R173 is refused by no check. -/
theorem portRefusal_of_passes {code : Byte} {need : Nat} {src : Source} {s : State} (h : Passes code need src s) :
    portRefusal code need src s = none := by
  obtain ⟨h1, h2, h3, h4⟩ := h
  unfold portRefusal
  rw [if_neg, if_neg, if_neg, if_neg (by omega)]
  · rintro ⟨a, b, c⟩
    rcases h3 a with h | h
    · exact b h
    · rw [c] at h; exact absurd h (by decide)
  · rintro ⟨a, b⟩; exact b (h2 a)
  · rintro ⟨a, b, c⟩
    rcases h1 a with h | h
    · exact b h
    · exact c h

/-- A command that passes is carried out by its owner, whose answer goes out (R173). -/
theorem serve_of_passes {code : Byte} {need : Nat} {src : Source} {s : State} (own : State → State × Answer)
    (h : Passes code need src s) :
    serve code need src own s =
      respond src code (own (received src s)).2 (received src s) (own (received src s)).1 := by
  simp [serve, atPort, portRefusal_of_passes h]

/-- A command that a check refuses is answered with the check's status and does nothing else (R173). -/
theorem serve_of_refused {code : Byte} {need : Nat} {src : Source} {s : State} {st : Status}
    (own : State → State × Answer) (h : portRefusal code need src s = some st) :
    serve code need src own s = respond src code (bare st) (received src s) (received src s) := by
  simp [serve, atPort, h]

end Sys2Proof.Machine
end

