-- ==== Sys2Proof/Laws/Store.lean ====
section
/-! SUPPORT. The cell store: what is read after a change, and that every change keeps the canonical form. -/

namespace Sys2Proof.Machine

/-! ### Reading after a change -/

theorem CellStore.read_write_same (st : CellStore) (q : Nat) (h : Held) : (st.write q h).read q = some h := by
  induction st with
  | nil => simp [CellStore.write, CellStore.read]
  | cons e rest ih =>
    obtain ⟨p, g⟩ := e
    simp only [CellStore.write]
    split
    · simp [CellStore.read]
    · split
      · simp [CellStore.read]
      · rw [CellStore.read, if_neg (by omega)]; exact ih

theorem CellStore.read_write_other (st : CellStore) (q r : Nat) (h : Held) (hne : r ≠ q) :
    (st.write q h).read r = st.read r := by
  induction st with
  | nil => simp [CellStore.write, CellStore.read, hne.symm]
  | cons e rest ih =>
    obtain ⟨p, g⟩ := e
    simp only [CellStore.write]
    split
    · rw [CellStore.read, if_neg hne.symm]
    · split
      · subst q; rw [CellStore.read, CellStore.read, if_neg hne.symm, if_neg hne.symm]
      · rw [CellStore.read, CellStore.read, ih]

theorem CellStore.read_filter (st : CellStore) (f : Nat → Bool) (q : Nat) :
    CellStore.read (List.filter (fun e : Nat × Held => f e.1) st) q = if f q then st.read q else none := by
  induction st with
  | nil => simp [CellStore.read]
  | cons e rest ih =>
    obtain ⟨p, g⟩ := e
    by_cases hp : p = q
    · subst hp
      by_cases hf : f p <;> simp [hf, CellStore.read, ih]
    · by_cases hf : f p <;> simp [hf, CellStore.read, ih, hp]

theorem CellStore.read_erase_same (st : CellStore) (q : Nat) : (st.erase q).read q = none := by
  have h := st.read_filter (fun n => decide (n ≠ q)) q
  simpa [CellStore.erase] using h

theorem CellStore.read_erase_other (st : CellStore) (q r : Nat) (hne : r ≠ q) : (st.erase q).read r = st.read r := by
  have h := st.read_filter (fun n => decide (n ≠ q)) r
  simpa [CellStore.erase, hne] using h

theorem CellStore.read_clear (st : CellStore) (o n r : Nat) :
    (st.clear o n).read r = if o ≤ r ∧ r < o + n then none else st.read r := by
  have h := st.read_filter (fun x => !(decide (o ≤ x) && decide (x < o + n))) r
  rw [CellStore.clear, h]
  by_cases h1 : o ≤ r <;> by_cases h2 : r < o + n <;> simp [h1, h2]

/-! ### The canonical form -/

theorem CellStore.wf_nil : CellStore.wf [] := ⟨List.Pairwise.nil, fun _ h => nomatch h⟩

theorem CellStore.wf_filter (st : CellStore) (f : Nat × Held → Bool) (h : st.wf) : CellStore.wf (st.filter f) := by
  refine ⟨h.1.sublist (List.filter_sublist.map _), fun e he => h.2 e (List.mem_filter.mp he).1⟩

theorem CellStore.wf_erase (st : CellStore) (q : Nat) (h : st.wf) : (st.erase q).wf := st.wf_filter _ h

theorem CellStore.wf_clear (st : CellStore) (o n : Nat) (h : st.wf) : (st.clear o n).wf := st.wf_filter _ h

theorem CellStore.mem_write {st : CellStore} {q : Nat} {h : Held} {e : Nat × Held} (he : e ∈ st.write q h) :
    e = (q, h) ∨ e ∈ st := by
  induction st with
  | nil => simpa [CellStore.write] using he
  | cons x rest ih =>
    obtain ⟨p, g⟩ := x
    simp only [CellStore.write] at he
    split at he
    · simpa using he
    · split at he
      · rcases List.mem_cons.mp he with h1 | h1
        · exact .inl h1
        · exact .inr (List.mem_cons_of_mem _ h1)
      · rcases List.mem_cons.mp he with h1 | h1
        · exact .inr (h1 ▸ List.mem_cons_self)
        · rcases ih h1 with h2 | h2
          · exact .inl h2
          · exact .inr (List.mem_cons_of_mem _ h2)

theorem CellStore.wf_write (st : CellStore) (q : Nat) (x : Held) (h : st.wf) (hq : q < storePlaces) : (st.write q x).wf := by
  refine ⟨?_, fun e he => ?_⟩
  · have h1 := h.1
    clear h
    induction st with
    | nil => simp [CellStore.write]
    | cons e rest ih =>
      obtain ⟨p, g⟩ := e
      simp only [List.map_cons, List.pairwise_cons] at h1
      simp only [CellStore.write]
      split
      · rename_i hlt
        simp only [List.map_cons, List.pairwise_cons]
        refine ⟨?_, h1⟩
        intro a ha
        rcases List.mem_cons.mp ha with h2 | h2
        · omega
        · have := h1.1 a h2; omega
      · split
        · rename_i heq
          simp only [List.map_cons, List.pairwise_cons]
          exact ⟨by rw [heq]; exact h1.1, h1.2⟩
        · simp only [List.map_cons, List.pairwise_cons]
          refine ⟨?_, ih h1.2⟩
          intro a ha
          obtain ⟨y, hy, rfl⟩ := List.mem_map.mp ha
          rcases CellStore.mem_write hy with h2 | h2
          · subst h2; simp only; omega
          · exact h1.1 _ (List.mem_map_of_mem h2)
  · rcases CellStore.mem_write he with h2 | h2
    · subst h2; exact hq
    · exact h.2 e h2

theorem reset_store_wf : State.reset.rejoin.store.wf := CellStore.wf_nil

end Sys2Proof.Machine
end

