-- ==== Sys2Proof/Tests/Slice0.lean ====
section
/-! SUPPORT. Tests: ill-formed rows that WellFormed refuses, frames of section 9.6 byte by byte, one step of a command on a
small state, and for every statement with hypotheses a state and operands that meet them (`witness_<statement>_<clause>`). -/

namespace Sys2Proof.Tests

open Sys2Proof Sys2Proof.Machine

/-! ### States and operands to test on -/

/-- The state after a power-on reset. -/
def base : State := State.reset

/-- LP1, at rank 0 after a reset. -/
def l1 : Source := .lp .lp1

/-- LP2, at rank 2 after a reset. -/
def l2 : Source := .lp .lp2

/-- The far terminal's LP1 at rank 0, through the tunnel. -/
def far : Source := .pt .lp1 0 7

/-- A path brought into a state. -/
def putPath (p : Path) (x : PathState) (s : State) : State := modSup p (fun v => { v with state := x }) s

/-- Paths A and B in UP. -/
def twoUp : State := putPath .a .up (putPath .b .up base)

/-- LP1 holds the claim. -/
def held : State := modPlan (fun x => { x with holder := some .lp1 }) base

/-- A switch in hand that LP1's terminal proposed, for superframe 100. -/
def inHandSwitch : Pending := { epoch := 1, tag := 1, n := 100, proposer := .mast }

/-- The engine PROPOSING. -/
def proposing : State := modSwitch (fun w => { w with engine := .proposing inHandSwitch }) base

/-- The terminal PARKED. -/
def parkedState : State := modStorm (fun m => { m with parking := .parked }) base

/-- A claim argument record without settings, and the others likewise. -/
def noClaim : ClaimArgs := { lapse := none, badPresence := false }
def noCommit : CommitArgs := { lead := none, badPresence := false }
def noStream : StreamArgs :=
  { present := none, cls := none, direction := none, editRank := none, mode := none, preferred := none, stagger := none,
    hold := none, budgetRaw := none, granularity := none, priority := none, badPresence := false }
def noPath : PathArgs :=
  { path := 0, calmLen := none, stormLen := none, probation := none, degrade := none, exposure := none, shelterMs := none,
    badPresence := false }
def noStorm : StormArgs :=
  { fieldPolarity := none, flashPolarity := none, surgePolarity := none, debounceMs := none, strikeMs := none,
    stormClearMin := none, watchClearMin := none, badPresence := false }
def noRadio : RadioArgs := { idle := none, standby := none, badPresence := false }

/-- A data cell of stream 1 with an empty payload of 240 zeros. -/
def dataCell : Cell :=
  { fill := false, copyIndex := 2, stream := 1, seq := 5, origin := 65535999, payload := List.replicate 240 0 }

def fillCell : Cell := { fill := true, copyIndex := 0, stream := 0, seq := 0, origin := 0, payload := [] }

/-- A GOOD header from the truck, of superframe 3. -/
def goodHeader : HeaderArrival :=
  { header :=
      { number := 3, sendTime := 3000, role := .truck, parked := false, mutingNext := false, level := .calm,
        lengthCode := 4, echoValid := false, epoch := 0, echoOf := 0, turnaround := 65535 }
    checkPasses := true
    arrivalLink := 3020
    arrivalRef := 3020 }

/-- A block of fill cells that came through whole. -/
def goodBlock : BlockArrival := { corrupted := 0, complete := true, sentLength := .l16, cells := [] }

/-! ### WellFormed refuses -/

theorem test_wf_refuses_payload : (Instr.ingressCell 1 (List.replicate 239 0)).wf = false := by decide +kernel

theorem test_wf_refuses_fill_with_stream :
    (Instr.blockJudged .a { goodBlock with cells := [⟨{ fillCell with stream := 1 }, 0⟩] }).wf = false := by decide

theorem test_wf_refuses_copy_index : Cell.wf { dataCell with copyIndex := 3 } = false := by decide +kernel

theorem test_wf_refuses_origin : Cell.wf { dataCell with origin := 65536000 } = false := by decide +kernel

theorem test_wf_refuses_cell_arrival :
    (Instr.resync .a .clean ⟨dataCell, 65536000⟩).wf = false := by decide +kernel

theorem test_wf_refuses_resync_of_fill : (Instr.resync .a .clean ⟨fillCell, 0⟩).wf = false := by decide

theorem test_wf_refuses_header_stamp :
    (Instr.headerReceived .a { goodHeader with arrivalLink := 65536000 }).wf = false := by decide

theorem test_wf_refuses_epoch_split_stamp :
    (Instr.epochSplit .a { goodHeader with arrivalLink := 65536000 }).wf = false := by decide

theorem test_wf_refuses_acquisition_stamp :
    (Instr.acquisitionComplete .a { goodHeader with arrivalLink := 65536000 }).wf = false := by decide

theorem test_wf_refuses_event_stamp :
    (Instr.alignmentLoss .a (.header { goodHeader with arrivalLink := 65536000 })).wf = false := by decide

theorem test_wf_refuses_long_block :
    (Instr.probationComplete .a (.block { goodBlock with cells := List.replicate 17 ⟨fillCell, 0⟩ })).wf = false := by
  decide

theorem test_wf_refuses_corruption : (Instr.recoveryComplete .a (.block { goodBlock with corrupted := 4105 })).wf = false := by
  decide

theorem test_wf_refuses_sweep_block : (Instr.sweepStepComplete .a (.block { goodBlock with corrupted := 4105 })).wf = false := by
  decide

theorem test_wf_refuses_far_rank : (Instr.status (.pt .lp1 4 0)).wf = false := by decide

theorem test_wf_refuses_long_inner_frame : (Instr.tunnel l1 (List.replicate 256 0)).wf = false := by decide +kernel

theorem test_wf_refuses_known_code : (Instr.unknownCommand .lp1 34).wf = false := by decide

theorem test_wf_accepts :
    (Instr.unknownCommand .lp1 35).wf = true ∧ dataCell.wf = true ∧ fillCell.wf = true ∧
      (Instr.headerReceived .a goodHeader).wf = true ∧ (Instr.blockJudged .a goodBlock).wf = true := by decide +kernel

/-! ### Frames, byte by byte from section 9.6 -/

theorem test_frame_status : stepOfFrame .lp2 [2] = some (.status (.lp .lp2)) := by decide

theorem test_frame_set_rank : stepOfFrame .lp1 [4, 1, 3] = some (.setRank (.lp .lp1) 1 3) := by decide

theorem test_frame_claim_lapse : stepOfFrame .lp1 [7, 1, 60] = some (.claim (.lp .lp1) { lapse := some 60, badPresence := false }) := by
  decide

/-- SET-STREAM 3 with the presence bits of hold (bit 7) and priority (bit 10): hold 300 is 01 2C. -/
theorem test_frame_set_stream :
    stepOfFrame .lp1 [9, 0x04, 0x80, 3, 0x01, 0x2C, 2] =
      some (.setStream (.lp .lp1) 3 { noStream with hold := some 300, priority := some 2 }) := by decide

theorem test_frame_commit_lead :
    stepOfFrame .lp1 [12, 1, 0x00, 0x64] = some (.commit (.lp .lp1) { lead := some 100, badPresence := false }) := by
  decide

theorem test_frame_read_window : stepOfFrame .lp2 [15, 7, 0x12, 0x34, 4] = some (.readWindow (.lp .lp2) 7 0x1234 4) := by
  decide

theorem test_frame_read_counters_clear :
    stepOfFrame .lp1 [17, 1, 6, 1] = some (.readCounters (.lp .lp1) { group := 6, clear := some 1, badPresence := false }) := by
  decide

theorem test_frame_set_enables : stepOfFrame .lp1 [20, 0x00, 0x80, 0x00, 0x01] = some (.setEnables (.lp .lp1) 0x00800001) := by
  decide

theorem test_frame_tunnel : stepOfFrame .lp1 [23, 2, 31, 0] = some (.tunnel (.lp .lp1) [31, 0]) := by decide

theorem test_frame_set_path :
    stepOfFrame .lp1 [25, 0x24, 1, 0x00, 0x0A, 0x01, 0xF4] =
      some (.setPath (.lp .lp1) { noPath with path := 1, probation := some 10, shelterMs := some 500 }) := by decide

theorem test_frame_set_storm :
    stepOfFrame .lp1 [28, 0x11, 1, 0x07, 0xD0] =
      some (.setStorm (.lp .lp1) { noStorm with fieldPolarity := some 1, strikeMs := some 2000 }) := by decide

theorem test_frame_undefined_presence_bit :
    stepOfFrame .lp1 [26, 0x04] = some (.setRadioTimers (.lp .lp1) { noRadio with badPresence := true }) := by decide

theorem test_frame_fetch_at_its_code : stepOfFrame .lp1 [1, 9, 9] = some (.fetch .lp1) := by decide

theorem test_frame_discarded :
    stepOfFrame .lp1 [4, 1] = some (.frameDiscarded .lp1) ∧ stepOfFrame .lp1 [2, 0] = some (.frameDiscarded .lp1) ∧
      stepOfFrame .lp1 [23, 3, 2] = some (.frameDiscarded .lp1) := by decide

theorem test_frame_unknown :
    stepOfFrame .lp1 [0] = some (.unknownCommand .lp1 0) ∧ stepOfFrame .lp2 [35, 1] = some (.unknownCommand .lp2 35) ∧
      stepOfFrame .lp1 [] = none := by decide

/-! ### Witnesses: the machine's step, time, frames and layouts -/

/-- A state in which the start of superframe 1 has come. -/
def atBoundary : State := modClock (fun c => { c with link := 1000, rolled := false, started := false }) base

theorem witness_StepTakesFrontCommand :
    ({ base with pending := [.outboxMove, .planSwitch] } : State).pending = .outboxMove :: [.planSwitch] := by decide

theorem witness_IdleStepOffersOrTicks_1 : atBoundary.pending = [] ∧ nextDue atBoundary = some .superframeStart := by decide

theorem witness_IdleStepOffersOrTicks_2 :
    base.pending = [] ∧ nextDue base = none ∧ base.clock.owed = 0 ∧ base.clock.slew = none := by decide

/-- Path A's last slot of block 15 ends at 1,000 µs of link time, with its check bytes still to come. -/
def checkNow : State :=
  modFramer .a (fun f => { f with tx := { sending := false, nextSlot := 250, closing := false, owed := some 15 } }) atBoundary

theorem witness_IdleStepOffersOrTicks_3 :
    checkNow.clock.link % 1000 = (checkNow.framer.get .a).tx.nextSlot * pitchOf .a % 1000 ∧
      (checkNow.framer.get .a).tx.owed = some 15 ∧ (checkNow.framer.get .b).tx.owed = none := by decide

theorem witness_IdleStepOffersOrTicks_4 :
    base.plan.lapseTimer = none ∧ base.radio.idleTimer = some (4999999 + 1) ∧
      (modStorm (fun m => { m with debounce := some 0 }) base).storm.debounce = some 0 := by decide

theorem witness_LinkTimeFollowsTheSource_6 :
    ({ powerOnClock with slew := some { c := -2, spent := 0 } } : Clock).slew = some { c := -2, spent := 0 } ∧
      ({ powerOnClock with slew := some { c := 2, spent := 0 } } : Clock).owed = 0 ∧ (-2 : Int) ≤ -2 ∧ (2 : Int) ≤ 2 := by
  decide

theorem witness_CommandFramesReadBack :
    (Request.tunnel (List.replicate 255 0)).wf = true ∧ (Request.setStream 31 noStream).wf = true := by decide +kernel

theorem witness_MessagesReadBack :
    (Message.propose .mast 0 0 (List.replicate 31 (wireOf systemDescriptor))).Sendable ∧
      (Message.tunnelRequest .truck .lp2 3 255 (List.replicate 224 0)).Sendable ∧ (Message.cancel .mast 15).Sendable := by
  decide +kernel

theorem witness_WireDescriptorsReadBack_1 :
    ({ systemDescriptor with stagger := 160, hold := 320, budgetRaw := 63 } : Descriptor).InRange ∧
      ({ systemDescriptor with hold := 4 } : Descriptor).InRange := by decide

theorem witness_WireDescriptorsReadBack_3 :
    320 < ({ wireOf systemDescriptor with hold := 321 } : WireDesc).hold.toNat ∧
      descriptorOf { wireOf systemDescriptor with hold := 321 } = none := by decide

theorem witness_HeadersReadBack : dataCell.wf = true ∧ fillCell.wf = true := by decide +kernel

theorem witness_ValidationAcceptsExactly :
    validate defaultPlan = none ∧ (sget defaultPlan 0).present = true ∧
      validate (sset defaultPlan 31 { systemDescriptor with direction := .up }) = some (.classMode, 31) := by decide

/-- R19's five rules, each as the first one failed, and an index ahead of a failing one. -/
theorem witness_ValidationAcceptsExactly_2 :
    let d : Descriptor :=
      { present := true, cls := .ret, direction := .up, editRank := 2, mode := .dualStagger, preferred := some .a,
        stagger := 8, hold := 12, budgetRaw := 4, granularity := .fine, priority := 1 }
    let big : Descriptor := { d with mode := .dual, budgetRaw := 63, granularity := .coarse, hold := 120 }
    validate (sset defaultPlan 3 d) = none ∧
      validate (sset (sset defaultPlan 3 { d with preferred := none, stagger := 0 }) 2 d) = some (.path, 3) ∧
      validate (sset defaultPlan 3 { d with hold := 11 }) = some (.stagger, 3) ∧
      validate (sset defaultPlan 3 { big with hold := 121 }) = some (.span, 3) ∧
      validate (sset (sset defaultPlan 3 big) 9 big) = some (.store, 9) := by decide +kernel

/-! ### Witnesses: the ports -/

/-- A tunnel outstanding on LP1. -/
def openedTunnel : Tunnel := { tag := 3, timeout := 100000, parts := [], lastPart := none }

def withTunnel : State := modPort .lp1 (fun x => { x with tunnel := some openedTunnel }) base

/-- A reset is pending. -/
def withReset : State := modPorts (fun x => { x with resetPending := some { left := 10, moved := none } }) base

theorem witness_FramesThatAreNoCommand_1 : (Request.park).wf = true ∧ Request.park ≠ .fetch := by decide

theorem witness_FramesThatAreNoCommand_3 :
    (Request.commit { lead := some 20, badPresence := false }).wf = true ∧
      3 < (encodeRequest (.commit { lead := some 20, badPresence := false })).length := by decide

theorem witness_FramesThatAreNoCommand_2 : (0 : Byte) = 0 ∧ 35 ≤ (35 : Byte).toNat ∧ 35 ≤ (255 : Byte).toNat := by decide

theorem witness_PortChecksComeInOrder_1 :
    portRow (.pin l1) = some (5, 0, l1) ∧ isParked parkedState = true ∧ (5 : Byte) ≠ 2 ∧ (5 : Byte) ≠ 30 := by decide

theorem witness_PortChecksComeInOrder_2 :
    portRow (.wake l1) = some (30, 1, l1) ∧ isParked withTunnel = false ∧ tunnelOut withTunnel l1 = true ∧ (30 : Byte) ≠ 2 := by
  decide

theorem witness_PortChecksComeInOrder_3 :
    portRow (.reset far) = some (3, 0, far) ∧ isParked withReset = false ∧ tunnelOut withReset far = false ∧
      withReset.ports.resetPending ≠ none ∧ localReset 3 far = false := by decide

theorem witness_PortChecksComeInOrder_4 :
    portRow (.pathEnable l2 0 0) = some (24, 1, l2) ∧ isParked base = false ∧ tunnelOut base l2 = false ∧
      base.ports.resetPending = none ∧ 1 < effectiveRank base l2 := by decide

theorem witness_TunnelledResponseGoesInParts :
    (place (.cancel .mast 0) base).disp.outbox = base.disp.outbox ++ [⟨.cancel .mast 0, .no⟩] ∧
      base.disp.outbox.length + 5 + 27 ≤ 32 ∧ (recordBytes (recordForPt 5 (bare .done) base)).length ≤ 1120 := by decide

/-- LP1's slot holds the response to a PIN, fetched or not. -/
def answered (fetched : Bool) : State :=
  modPort .lp1 (fun x =>
    { x with
      slot := some (recordOf 5 (bare .done), fetched)
      lastFetched := if fetched then some (recordOf 5 (bare .done)) else none }) base

theorem witness_FetchGivesTheRecord_1 :
    ((answered false).ports.lp.get .lp1).slot = some (recordOf 5 (bare .done), false) := by decide

theorem witness_FetchGivesTheRecord_2 :
    ready (answered true) .lp1 = false ∧
      ((answered true).ports.lp.get .lp1).lastFetched = some (recordOf 5 (bare .done)) := by decide

theorem witness_FetchGivesTheRecord_3 : ready base .lp1 = false ∧ (base.ports.lp.get .lp1).lastFetched = none := by decide

theorem witness_FetchGivesTheRecord_4 :
    ({ resetPort with dataOut := some (recordOf 5 (bare .done)) } : PortState).dataOut = some (recordOf 5 (bare .done)) ∧
      (recordBytes (recordOf 5 (bare .done))).length ≤ 6 ∧ (recordBytes (recordOf 5 (bare .done)))[0]? = some 5 := by decide

/-- The record table of section 9.6, written out: a COMMIT with its lead clamped, ACCEPTED, its response fetched again. -/
theorem test_record_bytes :
    recordBytes
        { recordOf 12 { status := .accepted, note := [.lead], body := .proposal 5 0x1234 } with repeated := true, number := 7 } =
      [12, 2, 0x60, 7, 0, 5, 1, 13, 5, 0x12, 0x34] := by decide

theorem witness_FetchGivesTheRecord_5 :
    (recordOf 5 (bare .done)).note = [] ∧ (recordOf 12 (doneNoting [.lead])).note ≠ [] := by decide

theorem witness_ReadingsAnswerWithoutEffect :
    effectiveRank base l2 ≤ 255 ∧ Passes 18 anyRank l2 base ∧ Passes 21 anyRank far base ∧ Passes 22 anyRank l1 base := by
  decide

theorem witness_ReadingsAnswerWithoutEffect_2 : l1 = .lp .lp1 ∧ ∀ p, far ≠ .lp p := ⟨rfl, fun p h => (by cases p <;> cases h)⟩

theorem witness_StreamPathAndWindowReadings_1 :
    Passes 14 anyRank l2 base ∧ streamOf 31 = some 31 ∧ copyOf 2 = some .pinned ∧ copyOf 0 = some .active := by decide

theorem witness_StreamPathAndWindowReadings_2 : Passes 14 anyRank l2 base ∧ 32 ≤ (32 : Byte).toNat ∧ 3 ≤ (3 : Byte).toNat := by
  decide

theorem witness_StreamPathAndWindowReadings_3 : Passes 16 anyRank l2 base ∧ pathOf 2 = some .w := by decide

theorem witness_StreamPathAndWindowReadings_4 : Passes 16 anyRank l2 base ∧ 3 ≤ (3 : Byte).toNat := by decide

theorem witness_StreamPathAndWindowReadings_5 :
    Passes 15 anyRank l2 base ∧ streamOf 0 = some 0 ∧ windowOf base 0 = some (freshWindow 64 0) := by decide +kernel

theorem witness_StreamPathAndWindowReadings_6 :
    Passes 15 anyRank l2 base ∧ streamOf 1 = some 1 ∧ windowOf base 1 = none ∧ streamOf 32 = none := by decide

theorem witness_ReadCountersAndClear_1 : Passes 17 anyRank l2 base ∧ groupOf 6 = some .ports := by decide

theorem witness_ReadCountersAndClear_2 :
    Passes 17 anyRank far base ∧ groupOf 0 = some .dispatch ∧
      ({ group := 0, clear := some 1, badPresence := false } : CounterArgs).clear = some 1 := by decide

theorem witness_ReadCountersAndClear_3 : Passes 17 anyRank l2 base ∧ 7 ≤ (7 : Byte).toNat ∧ 2 ≤ (2 : Byte).toNat := by decide

theorem witness_ReadCountersAndClear_4 : CounterGroup.ports ≠ .dispatch := by decide

theorem witness_SetRankKeepsARankZero_1 :
    Passes 4 0 l1 base ∧ requesterOf 2 = some .pt ∧ (0 : Byte).toNat = (0 : Rank).val ∧
      someRankZero (base.ports.ranks.set .pt 0) = true := by decide

theorem witness_SetRankKeepsARankZero_2 :
    Passes 4 0 l1 base ∧ requesterOf 0 = some .lp1 ∧ (3 : Byte).toNat = (3 : Rank).val ∧
      someRankZero (base.ports.ranks.set .lp1 3) = false := by decide

theorem witness_SetRankKeepsARankZero_3 : Passes 4 0 l1 base ∧ 3 ≤ (3 : Byte).toNat ∧ 4 ≤ (4 : Byte).toNat := by decide

theorem witness_ClearEventsKeepsHeldConditions_1 : Passes 19 anyRank l2 base ∧ (0xFFFFFF#32).toNat < 2 ^ 24 := by decide

theorem witness_ClearEventsKeepsHeldConditions_2 : Passes 19 anyRank l2 base ∧ 2 ^ 24 ≤ (0x1000000#32).toNat := by decide

theorem witness_SetEnablesAndNotice_1 : Passes 20 anyRank l2 base ∧ requesterOfSource l2 ≠ .pt := by decide

theorem witness_SetEnablesAndNotice_2 :
    Passes 20 anyRank far base ∧ requesterOfSource far = .pt ∧ bothSets base.ev .pt = 0 ∧
      base.ev.sets.pt &&& (0x800000#32).setWidth 24 ≠ 0 := by decide

theorem witness_SetEnablesAndNotice_3 : Passes 20 anyRank l2 base ∧ 2 ^ 24 ≤ (0x1000000#32).toNat := by decide

theorem witness_RaisedKindsJoinEverySet_1 :
    bothSets base.ev .pt ≠ 0 ∨ (base.ev.sets.pt ||| kindStrike) &&& base.ev.enables.pt = 0 := by decide

theorem witness_RaisedKindsJoinEverySet_2 :
    bothSets (modEvents (fun e => { e with enables := e.enables.set .pt kindStrike }) base).ev .pt = 0 ∧
      ((base.ev.sets.pt ||| kindStrike) &&&
        (modEvents (fun e => { e with enables := e.enables.set .pt kindStrike }) base).ev.enables.pt) ≠ 0 := by decide

theorem witness_RaisedKindsJoinEverySet_3 :
    32 ≤ (modDisp (fun d => { d with outbox := List.replicate 32 { msg := .cancel .mast 0, awaited := .no } }) base).disp.outbox.length ∧
      base.disp.outbox.length < 32 := by decide +kernel

theorem witness_RaisedKindsJoinEverySet_4 :
    condHolds base kindInStorm = false ∧ condHolds (setCond kindInStorm true base) kindInStorm = true := by decide

theorem witness_TunnelSendsTheInnerFrame_1 :
    Passes 23 anyRank l1 base ∧ parseFrame [23, 2, 31, 0] = .request (.tunnel [31, 0]) ∧
      parseFrame [31, 0] = .request (.sweep 0) ∧ [(31 : Byte), 0].length ≤ 224 := by decide

theorem witness_TunnelSendsTheInnerFrame_2 :
    Passes 23 anyRank l1 base ∧ parseFrame [] = .ignored ∧ parseFrame [31] = .discarded ∧ parseFrame [1] = .request .fetch := by
  decide

theorem witness_TunnelSendsTheInnerFrame_3 : Passes 23 anyRank l1 base ∧ parseFrame [35] = .unknown 35 := by decide

theorem witness_TunnelSendsTheInnerFrame_4 : Passes 23 anyRank far base := by decide

theorem witness_TunnelTimeoutEndsTheTunnel :
    ((modPort .lp1 (fun x => { x with tunnel := some { openedTunnel with timeout := 0 } }) base).ports.lp.get .lp1).tunnel =
      some { openedTunnel with timeout := 0 } := by decide

theorem witness_TunnelResponseIsJoined_1 :
    (withTunnel.ports.lp.get .lp1).tunnel = some openedTunnel ∧ openedTunnel.parts = [] ∧ openedTunnel.lastPart = none ∧
      (List.replicate 5 ([] : List Byte)).length ≤ 256 := by decide

theorem witness_TunnelResponseIsJoined_2 :
    (withTunnel.ports.lp.get .lp1).tunnel = some openedTunnel ∧ openedTunnel.tag ≠ 4 ∧
      (withTunnel.ports.lp.get .lp2).tunnel = none := by decide

theorem witness_TunnelResponseIsJoined_3 : (bodyBytes (recordOf 12 (doneNoting [.lead]))).length < 65536 := by decide

theorem witness_ResetCommandAndPendingReset_1 : Passes 3 0 l1 base ∧ Passes 3 0 l1 withReset := by decide

/-- PT at rank 0. -/
def ptZero : State := modPorts (fun x => { x with ranks := x.ranks.set .pt 0 }) base

theorem witness_ResetCommandAndPendingReset_2 : Passes 3 0 far ptZero ∧ ptZero.disp.outbox.length < 32 := by decide

theorem witness_ResetCommandAndPendingReset_3 :
    let s := modPorts (fun x => { x with resetPending := some { left := 5, moved := some 9 } }) atBoundary
    boundary s = true ∧ s.ports.resetPending = some { left := 5, moved := some 9 } ∧ drainedTo 9 s = true := by decide

theorem witness_ResetCommandAndPendingReset_4 :
    let s := modPorts (fun x => { x with resetPending := some { left := 1, moved := none } }) atBoundary
    boundary s = true ∧ s.ports.resetPending = some { left := 1, moved := none } := by decide

/-! ### Witnesses: the stream plan and the plan switch -/

/-- Outbound at the MAST, inbound at the TRUCK. -/
def audioUp : Descriptor :=
  { present := true, cls := .audio, direction := .up, editRank := 2, mode := .dual, preferred := some .a, stagger := 0,
    hold := 16, budgetRaw := 4, granularity := .fine, priority := 1 }

/-- Inbound at the MAST. -/
def audioDown : Descriptor := { audioUp with direction := .down }

/-- LP1 holds the claim, and stream 31 of the staged plan is a programme stream in SINGLE mode, which fails validation. -/
def badStaged : State := modPlan (fun x => { x with staged := sset x.staged 31 { audioUp with cls := .programme, mode := .single } }) held

/-- LP2, at rank 2, holds the claim; the staged plan differs from the active plan at index 31, which needs rank 1. -/
def lp2Held : State :=
  modPlan (fun x => { x with holder := some .lp2, staged := sset x.staged 31 { audioUp with editRank := 1 } }) base

theorem witness_PinAndUnpin_1 : Passes 5 0 l1 base ∧ base.switch.engine = .idle ∧ Passes 6 0 l1 base := by decide

theorem witness_PinAndUnpin_2 : Passes 5 0 l1 proposing ∧ proposing.switch.engine ≠ .idle := by decide

theorem witness_ClaimGrantsAndRenews_1 :
    Passes 7 2 l2 base ∧ noClaim.badPresence = false ∧ base.switch.engine = .idle ∧ base.plan.holder = none ∧
      held.plan.holder = some (requesterOfSource l1) ∧ Passes 7 2 l1 held ∧ base.plan.lapseSecs = 30 := by decide

theorem witness_ClaimGrantsAndRenews_2 : Passes 7 2 l2 proposing ∧ proposing.switch.engine ≠ .idle := by decide

theorem witness_ClaimGrantsAndRenews_3 :
    Passes 7 2 l2 held ∧ held.switch.engine = .idle ∧ held.plan.holder = some .lp1 ∧ Requester.lp1 ≠ requesterOfSource l2 := by
  decide

theorem witness_ClaimGrantsAndRenews_4 :
    Passes 7 2 l1 held ∧ ({ noClaim with badPresence := true } : ClaimArgs).badPresence = true ∧
      held.plan.holder = some (requesterOfSource l1) ∧ Passes 7 2 l2 held ∧
      held.plan.holder ≠ some (requesterOfSource l2) := by decide

theorem witness_ReleaseBreakAndLapse_1 : Passes 8 2 l1 held ∧ held.plan.holder = some (requesterOfSource l1) := by decide

theorem witness_ReleaseBreakAndLapse_2 :
    Passes 8 2 l1 lp2Held ∧ lp2Held.plan.holder = some .lp2 ∧ Requester.lp2 ≠ requesterOfSource l1 ∧
      effectiveRank lp2Held l1 = 0 := by decide

theorem witness_ReleaseBreakAndLapse_3 :
    Passes 8 2 l2 held ∧ held.plan.holder ≠ some (requesterOfSource l2) ∧ effectiveRank held l2 ≠ 0 ∧ Passes 8 2 l1 base ∧
      base.plan.holder = none := by decide

theorem witness_ReleaseBreakAndLapse_4 :
    (modPlan (fun x => { x with lapseTimer := some 0 }) held).plan.holder = some .lp1 ∧
      (modPlan (fun x => { x with lapseTimer := some 0 }) held).plan.lapseTimer = some 0 := by decide

theorem witness_SetStreamEditsTheStagedPlan_1 :
    Passes 9 2 l2 lp2Held ∧ lp2Held.plan.holder = some (requesterOfSource l2) ∧ (30 : Byte).toNat = (30 : StreamIx).val ∧
      (enumSettings { noStream with hold := some 321, stagger := some 160, editRank := some 2 }).isSome = true ∧
      effectiveRank lp2Held l2 ≤ (sget lp2Held.plan.staged 30).editRank.val := by decide

theorem witness_SetStreamEditsTheStagedPlan_2 : Passes 9 2 l2 held ∧ held.plan.holder ≠ some (requesterOfSource l2) := by
  decide

theorem witness_SetStreamEditsTheStagedPlan_3 :
    Passes 9 2 l1 held ∧ held.plan.holder = some (requesterOfSource l1) ∧ 32 ≤ (32 : Byte).toNat ∧
      enumSettings { noStream with cls := some 0 } = none ∧ enumSettings { noStream with mode := some 5 } = none := by decide

theorem witness_SetStreamEditsTheStagedPlan_4 :
    Passes 9 2 l2 lp2Held ∧ lp2Held.plan.holder = some (requesterOfSource l2) ∧ (31 : Byte).toNat = (31 : StreamIx).val ∧
      (enumSettings noStream).isSome = true ∧ (sget lp2Held.plan.staged 31).editRank.val < effectiveRank lp2Held l2 := by
  decide

theorem witness_ClearStreamAndRevert_1 :
    Passes 10 2 l2 lp2Held ∧ lp2Held.plan.holder = some (requesterOfSource l2) ∧ (1 : Byte).toNat = (1 : StreamIx).val ∧
      effectiveRank lp2Held l2 ≤ (sget lp2Held.plan.staged 1).editRank.val := by decide

theorem witness_ClearStreamAndRevert_2 :
    Passes 11 2 l1 badStaged ∧ badStaged.plan.holder = some (requesterOfSource l1) ∧
      sget badStaged.plan.staged 31 ≠ sget badStaged.plan.active 31 ∧
      ∀ i, sget badStaged.plan.staged i ≠ sget badStaged.plan.active i →
        effectiveRank badStaged l1 ≤ (sget badStaged.plan.staged i).editRank.val ∧
          effectiveRank badStaged l1 ≤ (sget badStaged.plan.active i).editRank.val := by decide

theorem witness_ClearStreamAndRevert_3 :
    Passes 11 2 l2 lp2Held ∧ lp2Held.plan.holder = some (requesterOfSource l2) ∧
      sget lp2Held.plan.staged 31 ≠ sget lp2Held.plan.active 31 ∧
      (sget lp2Held.plan.staged 31).editRank.val < effectiveRank lp2Held l2 ∧
      ∀ j < (31 : StreamIx), sget lp2Held.plan.staged j = sget lp2Held.plan.active j := by decide

theorem witness_ClearStreamAndRevert_4 :
    Passes 10 2 l1 lp2Held ∧ lp2Held.plan.holder ≠ some (requesterOfSource l1) ∧ Passes 11 2 l1 base ∧
      base.plan.holder ≠ some (requesterOfSource l1) := by decide

theorem witness_ClearStreamAndRevert_5 :
    Passes 10 2 l2 lp2Held ∧ lp2Held.plan.holder = some (requesterOfSource l2) ∧ 32 ≤ (32 : Byte).toNat ∧
      (31 : Byte).toNat = (31 : StreamIx).val ∧ (sget lp2Held.plan.staged 31).editRank.val < effectiveRank lp2Held l2 := by
  decide

/-- LP1 holds the claim at a MAST whose time source is LOCKED. -/
def lockedHeld : State := modTime (fun x => { x with state := .locked }) held

theorem witness_CommitProposesTheStagedPlan_1 :
    Passes 12 2 l1 lockedHeld ∧ noCommit.badPresence = false ∧ lockedHeld.plan.holder = some (requesterOfSource l1) ∧
      isParking lockedHeld = false ∧ lockedHeld.switch.run = none ∧ lockedHeld.time.state ≠ .free ∧
      validate lockedHeld.plan.staged = none ∧
      (50 : SfNum) = superframeOf lockedHeld.clock.link + BitVec.ofNat 16 50 := by decide

theorem witness_CommitProposesTheStagedPlan_2 :
    let s := modTime (fun x => { x with state := .locked }) badStaged
    Passes 12 2 l1 s ∧ s.plan.holder = some (requesterOfSource l1) ∧ isParking s = false ∧ s.switch.run = none ∧
      s.time.state ≠ .free ∧ validate s.plan.staged = some (.classMode, 31) := by decide

theorem witness_CommitProposesTheStagedPlan_3 :
    let s := modStorm (fun m => { m with parking := .parking { left := 10, moved := none } }) lockedHeld
    Passes 12 2 l1 held ∧ held.plan.holder = some (requesterOfSource l1) ∧ held.role = .mast ∧ held.time.state = .free ∧
      Passes 12 2 l1 s ∧ s.plan.holder = some (requesterOfSource l1) ∧ isParking s = true := by
  decide

theorem witness_CommitProposesTheStagedPlan_4 :
    Passes 12 2 l2 held ∧ noCommit.badPresence = false ∧ held.plan.holder ≠ some (requesterOfSource l2) ∧
      Passes 12 2 l1 held ∧ ({ noCommit with badPresence := true } : CommitArgs).badPresence = true := by decide

theorem witness_AbortAndDeadlineCancel_1 :
    Passes 13 2 l2 proposing ∧ proposing.switch.engine = .proposing inHandSwitch ∧ proposing.disp.outbox.length < 31 := by
  decide

theorem witness_AbortAndDeadlineCancel_2 : Passes 13 2 l2 base ∧ base.switch.engine = .idle := by decide

theorem witness_AbortAndDeadlineCancel_3 :
    let s := modClock (fun c => { c with link := 90000, started := false, rolled := false }) proposing
    boundary s = true ∧ s.switch.engine = .proposing inHandSwitch ∧ inHandSwitch.n - 10 = superframeOf s.clock.link := by
  decide

/-- An armed switch to a staged plan that changes stream 1's class and leaves stream 0 as it is, at its superframe start. -/
def switching : State :=
  modClock (fun c => { c with link := 100000, started := false, rolled := false })
    (modSwitch (fun w => { w with engine := .armed inHandSwitch })
      (modRejoin (fun r => { r with windows := sset r.windows 1 (some (freshWindow 16 64)) })
        (modPlan (fun x =>
          { x with active := sset x.active 1 audioDown, staged := sset x.staged 1 { audioDown with cls := .ret } }) base)))

theorem witness_PlanSwitchMakesTheStagedPlanActive_1 :
    boundary switching = true ∧ switching.switch.engine = .armed inHandSwitch ∧
      inHandSwitch.n = superframeOf switching.clock.link := by decide

theorem witness_PlanSwitchMakesTheStagedPlanActive_2 : PlanSound switching ∧ StoreSound switching :=
  ⟨⟨by decide +kernel, by decide +kernel, by decide +kernel, by decide +kernel, by decide +kernel, fun _ => by decide,
    fun _ => by decide +kernel⟩, ⟨by decide +kernel, by decide, fun _ h => (by cases h)⟩⟩

theorem witness_PlanSwitchMakesTheStagedPlanActive_3 :
    windowOf switching 0 = some (freshWindow 64 0) ∧ KeepsWindow switching 0 (freshWindow 64 0) ∧
      windowOf switching 1 = some (freshWindow 16 64) ∧ ¬KeepsWindow switching 1 (freshWindow 16 64) ∧
      inbound switching.role (sget switching.plan.staged 1) = true := by decide +kernel

theorem witness_PlanSwitchMakesTheStagedPlanActive_4 :
    windowOf switching 2 = none ∧ (switching.rejoin.arrivals.get .b).late ≤ 65535 := by decide +kernel

theorem witness_ProposalsAnswersAndCancelsAreTaken_1 :
    base.switch.engine = .idle ∧ isParking base = false ∧ base.switch.run = none ∧ base.plan.holder = none ∧
      10 ≤ ((10 : SfNum) - superframeOf base.clock.link).toNat ∧
      ((10 : SfNum) - superframeOf base.clock.link).toNat < 32768 ∧
      (List.replicate 31 (wireOf defaultDescriptor)).length = 31 ∧ sget defaultPlan 0 = sget base.plan.staged 0 ∧
      (∀ i : StreamIx, i ≠ 0 →
        ((List.replicate 31 (wireOf defaultDescriptor))[i.val - 1]?).bind descriptorOf = some (sget defaultPlan i)) ∧
      validate defaultPlan = none := by decide

/-- Descriptor 2 of a proposal with an undefined direction. -/
def undefinedWire : WireDesc := { wireOf defaultDescriptor with direction := 3 }

theorem witness_ProposalsAnswersAndCancelsAreTaken_2 :
    base.switch.engine = .idle ∧ isParking base = false ∧ base.switch.run = none ∧ base.plan.holder = none ∧
      [wireOf defaultDescriptor, undefinedWire][1]? = some undefinedWire ∧ descriptorOf undefinedWire = none ∧
      ([wireOf defaultDescriptor, undefinedWire][0]?).bind descriptorOf ≠ none ∧
      validate (sset defaultPlan 31 { audioUp with cls := .programme, mode := .single }) = some (.classMode, 31) := by decide

/-- The engine ARMED. -/
def armedState : State := modSwitch (fun w => { w with engine := .armed inHandSwitch }) base

theorem witness_ProposalsAnswersAndCancelsAreTaken_3 :
    armedState.switch.engine = .armed inHandSwitch ∧
      isParking (modStorm (fun m => { m with parking := .parking { left := 10, moved := none } }) base) = true ∧
      (modSwitch (fun w => { w with run := some { epoch := 1, last := 5, placedIn := 0 } }) base).switch.run ≠ none := by decide

theorem witness_ProposalsAnswersAndCancelsAreTaken_4 :
    held.switch.engine = .idle ∧ isParking held = false ∧ held.switch.run = none ∧ held.plan.holder = some .lp1 := by decide

theorem witness_ProposalsAnswersAndCancelsAreTaken_5 :
    base.switch.engine = .idle ∧ isParking base = false ∧ base.switch.run = none ∧ base.plan.holder = none ∧
      ((9 : SfNum) - superframeOf base.clock.link).toNat < 10 ∧
      32768 ≤ ((0xFFFF : SfNum) - superframeOf base.clock.link).toNat := by decide

theorem witness_ProposalsAnswersAndCancelsAreTaken_6 :
    ({ proposing with role := .truck } : State).switch.engine = .proposing inHandSwitch ∧ proposing.role = .mast ∧
      proposing.switch.engine = .proposing inHandSwitch := by decide

theorem witness_ProposalsAnswersAndCancelsAreTaken_7 :
    proposing.switch.engine = .proposing inHandSwitch ∧ (1 : Epoch) = inHandSwitch.tag ∧ (2 : Epoch) ≠ inHandSwitch.tag ∧
      armedState.switch.engine = .armed inHandSwitch := by decide

/-! ### Witnesses: paths, radio and storm settings -/

/-- W's power control in a mode. -/
def radioIn (m : PowerMode) : State := modRadio (fun r => { r with mode := m }) base

theorem witness_PathEnableMovesThePath_1 :
    Passes 24 1 l1 base ∧ pathOf 2 = some .w ∧ (1 : Byte).toNat = (if true = true then 1 else 0) ∧
      (0 : Byte).toNat = (if false = true then 1 else 0) ∧ pstate base .a ≠ .off ∧ (radioIn .standby).radio.mode = .standby := by
  decide

/-- A sweep runs on path B, beside path A in UP. -/
def sweepOnB : State :=
  modSweep (fun w => { w with engine := .running { path := .b, counts := [0, 3], taken := 7, failed := 1 } })
    (putPath .b .sweep (putPath .a .up base))

theorem witness_PathEnableMovesThePath_3 :
    Passes 24 1 l1 sweepOnB ∧ pathOf 1 = some .b ∧ (0 : Byte).toNat = (if false = true then 1 else 0) ∧
      sweepOnB.sweep.engine = .running { path := .b, counts := [0, 3], taken := 7, failed := 1 } := by decide

theorem witness_PathEnableMovesThePath_4 :
    let s := putPath .a .off base
    Passes 24 1 l1 s ∧ pathOf 0 = some .a ∧ pstate s .a = .off ∧ Path.b ≠ .a ∧
      (pstate s .b = .off ↔ offCause s .b = true) := by decide

theorem witness_PathEnableMovesThePath_2 : Passes 24 1 l1 base ∧ 3 ≤ (3 : Byte).toNat ∧ 2 ≤ (2 : Byte).toNat := by decide

theorem witness_SetPathAndSetStormWriteSettings_1 :
    Passes 25 1 l1 base ∧ pathOf noPath.path = some .a ∧
      (pathEnums { noPath with calmLen := some 16, probation := some 9 }).isSome = true := by decide

theorem witness_SetPathAndSetStormWriteSettings_2 :
    Passes 25 1 l1 base ∧ 3 ≤ ({ noPath with path := 3 } : PathArgs).path.toNat ∧
      pathEnums { noPath with stormLen := some 3 } = none := by decide

theorem witness_SetPathAndSetStormWriteSettings_3 :
    Passes 28 1 l1 base ∧ (polarities { noStorm with fieldPolarity := some 1, strikeMs := some 10001 }).isSome = true := by
  decide

theorem witness_SetPathAndSetStormWriteSettings_4 :
    Passes 28 1 l1 base ∧ polarities { noStorm with surgePolarity := some 2 } = none := by decide

theorem witness_RadioCommands_1 : Passes 26 1 l1 base ∧ noRadio.badPresence = false ∧ base.radio.mode = .active := by decide

theorem witness_RadioCommands_2 :
    Passes 26 1 l1 base ∧ ({ noRadio with badPresence := true } : RadioArgs).badPresence = true := by decide

theorem witness_RadioCommands_3 :
    Passes 27 1 l1 (radioIn .standby) ∧ (radioIn .standby).radio.mode = .standby ∧ Passes 27 1 l1 (radioIn .idle) ∧
      (radioIn .idle).radio.mode = .idle := by decide

theorem witness_RadioCommands_5 :
    Passes 27 1 l1 base ∧ base.radio.mode = .active ∧ Passes 27 1 l1 (radioIn .warmup) ∧
      (radioIn .warmup).radio.mode = .warmup := by decide

theorem witness_RadioAndShelterTimersExpire_1 :
    (modRadio (fun r => { r with idleTimer := some 0 }) base).radio.idleTimer = some 0 ∧ base.radio.mode = .active := by decide

theorem witness_RadioAndShelterTimersExpire_2 :
    (modRadio (fun r => { r with standbyTimer := some 0 }) (radioIn .idle)).radio.standbyTimer = some 0 ∧
      (modRadio (fun r => { r with standbyTimer := some 0 }) (radioIn .idle)).radio.mode = .idle := by decide

theorem witness_RadioAndShelterTimersExpire_5 :
    let s := modRadio (fun r => { r with standbyTimer := some 0 }) (radioIn .idle)
    pstate s .w ≠ .off ∧ Path.a ≠ .w ∧ (pstate s .a = .off ↔ offCause s .a = true) := by decide

theorem witness_RadioAndShelterTimersExpire_3 :
    let s := putPath .w .off (modRadio (fun r => { r with warmTimer := some 0 }) (radioIn .warmup))
    s.radio.warmTimer = some 0 ∧ s.radio.mode = .warmup ∧ pstate s .w = .off ∧ (s.sup.get .w).enable = true ∧
      isParked s = false := by decide

theorem witness_RadioAndShelterTimersExpire_4 :
    ((modSup .b (fun v => { v with state := .shelter, shelterTimer := some 0 }) base).sup.get .b).shelterTimer = some 0 := by
  decide

/-- Path A in ACQUIRE with a run of two headers, the last of superframe 2, one superframe before `goodHeader`. -/
def acquiring : State :=
  modSup .a (fun v => { v with acqRun := 2 })
    (modFramer .a (fun f => { f with echo := some { sendTime := 2000, arrivalRef := 2020 } }) base)

theorem witness_AcquisitionCompletes_1 :
    pstate acquiring .a = .acquire ∧ (acquiring.framer.get .a).expected = none ∧ headerGood acquiring goodHeader = true ∧
      extendsRun acquiring .a goodHeader = true ∧ 2 ≤ (acquiring.sup.get .a).acqRun := by decide

theorem witness_AcquisitionCompletes_2 :
    pstate base .a = .acquire ∧ (base.framer.get .a).expected = none ∧ headerGood base goodHeader = true ∧
      extendsRun base .a goodHeader = false := by decide

theorem witness_AcquisitionCompletes_3 :
    pstate base .a = .acquire ∧ headerGood base { goodHeader with checkPasses := false } = false ∧
      headerGood base { goodHeader with header := { goodHeader.header with role := .mast } } = false := by decide

/-- Path A in UP, its next header expected at 5,000 µs, with the given miss run; the reference clock stands 4 µs past it. -/
def tracking (misses : Nat) : State :=
  modClock (fun c => { c with ref := 5004 })
    (modFramer .a (fun f => { f with expected := some 5000 }) (modSup .a (fun v => { v with state := .up, missRun := misses }) base))

/-- A header that is expected where it arrives, the 5,000 µs of `tracking`. -/
def expectedHeader : HeaderArrival :=
  { goodHeader with arrivalRef := 5004, header := { goodHeader.header with echoValid := true, echoOf := 2600, turnaround := 400 } }

/-- The same with its check failed. -/
def failedHeader : HeaderArrival := { expectedHeader with checkPasses := false }

theorem witness_HeadersAreTrackedAndLost_1 :
    pstate (tracking 0) .a = .up ∧ ((tracking 0).framer.get .a).expected = some 5000 ∧
      5000 + 4 < ({ expectedHeader with arrivalRef := 5005 } : HeaderArrival).arrivalRef := by decide

theorem witness_HeadersAreTrackedAndLost_2 :
    pstate (tracking 1) .a = .up ∧ inWindow ((tracking 1).framer.get .a) expectedHeader.arrivalRef = true ∧
      headerGood (tracking 1) expectedHeader = true ∧ lengthOfCode expectedHeader.header.lengthCode = some .l16 ∧
      expectedHeader.header.level = (tracking 1).storm.peer ∧ expectedHeader.header.parked = false := by decide

theorem witness_HeadersAreTrackedAndLost_3 :
    pstate (putPath .a .sweep (tracking 0)) .a = .sweep ∧ ((tracking 0).sup.get .a).missRun = 0 ∧
      inWindow ((tracking 0).framer.get .a) failedHeader.arrivalRef = true ∧ headerGood (tracking 0) failedHeader = false := by
  decide

theorem witness_HeadersAreTrackedAndLost_4 :
    pstate (tracking 0) .a = .up ∧ ((tracking 0).sup.get .a).missRun = 0 ∧ 1 ≤ ((tracking 0).sup.get .a).degradeThr ∧
      1 ≤ ((tracking 0).sup.get .a).probLen ∧ ((tracking 0).framer.get .a).expected = some 5000 ∧
      5000 + 4 ≤ (tracking 0).clock.ref := by decide

theorem witness_HeadersAreTrackedAndLost_5 :
    pstate (tracking 1) .a = .up ∧ 1 ≤ ((tracking 1).sup.get .a).missRun ∧
      ((tracking 1).framer.get .a).expected = some 5000 ∧ 5000 + 4 ≤ (tracking 1).clock.ref := by decide

theorem witness_HeadersAreTrackedAndLost_6 :
    pstate (tracking 1) .a = .up ∧ 1 ≤ ((tracking 1).sup.get .a).missRun ∧
      inWindow ((tracking 1).framer.get .a) failedHeader.arrivalRef = true ∧ headerGood (tracking 1) failedHeader = false := by
  decide

/-- `tracking` with path B's last counted loss at the given instant. -/
def lostBefore (n : Nat) : State := modSup .b (fun v => { v with lastLoss := some { instant := n, used := false } }) (tracking 1)

theorem witness_HeadersAreTrackedAndLost_7 :
    LossPartner (lostBefore 3004) .a .b ∧ ¬LossExcluded (lostBefore 3004) .a ∧ ¬LossPartner (lostBefore 3003) .a .b ∧
      LossExcluded (modSup .a (fun v => { v with lastOffset := -1 }) (tracking 1)) .a :=
  ⟨⟨by decide, _, rfl, rfl, by decide⟩, by decide, fun ⟨_, l, h, _, g⟩ => (by cases h; revert g; decide), by decide⟩

/-- A sweep on path A with the given steps stored and reports taken, its next header expected at 5,000 µs. -/
def sweepMissing (steps taken : Nat) : State :=
  modSweep (fun w => { w with engine := .running { path := .a, counts := List.replicate steps 0, taken := taken, failed := 2 } })
    (putPath .a .sweep (tracking 0))

theorem witness_HeadersAreTrackedAndLost_8 :
    pstate (sweepMissing 0 5) .a = .sweep ∧ ((sweepMissing 0 5).sup.get .a).missRun = 0 ∧
      ((sweepMissing 0 5).framer.get .a).expected = some 5000 ∧ 5000 + 4 ≤ (sweepMissing 0 5).clock.ref ∧
      (sweepMissing 0 5).sweep.engine = .running { path := .a, counts := [], taken := 5, failed := 2 } ∧
      (sweepMissing 30 63).sweep.engine = .running { path := .a, counts := List.replicate 30 0, taken := 63, failed := 2 } ∧
      (sweepMissing 31 63).sweep.engine = .running { path := .a, counts := List.replicate 31 0, taken := 63, failed := 2 } := by
  decide

/-- The terminal PARKED with path A OFF, its next header expected at 5,000 µs, with the given count of bad results. -/
def parkedTracking (bad : Nat) : State :=
  modStorm (fun m => { m with parking := .parked })
    (modFramer .a (fun f => { f with parkedMisses := bad }) (putPath .a .off (tracking 0)))

theorem witness_HeadersAreTrackedAndLost_9 :
    isParked (parkedTracking 0) = true ∧ pstate (parkedTracking 0) .a = .off ∧ ((parkedTracking 0).sup.get .a).enable = true ∧
      inWindow ((parkedTracking 0).framer.get .a) expectedHeader.arrivalRef = true ∧
      headerGood (parkedTracking 0) expectedHeader = true ∧ lengthOfCode expectedHeader.header.lengthCode = some .l16 ∧
      inWindow ((parkedTracking 0).framer.get .a) { expectedHeader with arrivalRef := 5005 }.arrivalRef = false ∧
      headerGood (parkedTracking 1) failedHeader = false ∧ ((parkedTracking 1).framer.get .a).parkedMisses = 1 ∧
      ((parkedTracking 1).framer.get .a).expected = some 5000 ∧ 5000 + 4 ≤ (parkedTracking 1).clock.ref := by decide

theorem witness_HeadersAreTrackedAndLost_10 :
    pstate (putPath .b .shelter base) .b = .shelter ∧ pstate (putPath .b .off (parkedTracking 0)) .b = .off ∧
      pstate (putPath .a .off base) .a = .off ∧ isParked (putPath .a .off base) = false := by decide

/-- The MAST's time source is path A, with a delay estimate of 100 µs, in a record state. -/
def onSource (x : TimeState) : State :=
  modTime (fun y => { y with state := x, source := some .a }) (modSup .a (fun v => { v with delay := some 800 }) (tracking 0))

theorem witness_LinkTimeFollowsTheSource_1 :
    pstate (tracking 0) .a = .up ∧ inWindow ((tracking 0).framer.get .a) expectedHeader.arrivalRef = true ∧
      headerGood (tracking 0) expectedHeader = true ∧ expectedHeader.header.echoValid = true ∧
      (20 : Int) =
        (tsub expectedHeader.arrivalLink expectedHeader.header.echoOf.toNat : Int) - (expectedHeader.header.turnaround.toNat : Int) ∧
      headerGood (tracking 0) goodHeader = true ∧ goodHeader.header.echoValid = false := by decide

theorem witness_LinkTimeFollowsTheSource_2 :
    EchoIsStale (modSup .a (fun v => { v with staleUntil := some { first := 2601, instant := 5000 } }) (tracking 0)) .a expectedHeader ∧
      ¬EchoIsStale (tracking 0) .a expectedHeader :=
  ⟨⟨_, rfl, by decide, by decide⟩, fun ⟨_, h, _⟩ => (by cases h)⟩

theorem witness_LinkTimeFollowsTheSource_3 :
    (onSource .free).role = .mast ∧ (onSource .free).time.source = some .a ∧ pstate (onSource .free) .a = .up ∧
      inWindow ((onSource .free).framer.get .a) expectedHeader.arrivalRef = true ∧
      headerGood (onSource .free) expectedHeader = true ∧ ((onSource .free).sup.get .a).delay ≠ none ∧
      1 ≤ ((onSource .free).sup.get .a).degradeThr ∧ (onSource .free).time.state = .free ∧
      (onSource .locked).time.state = .locked ∧ (tracking 0).time.source ≠ some .a := by decide

theorem witness_LinkTimeFollowsTheSource_4 :
    let s := modTime (fun y => { y with state := .holdover }) base
    s.role = .mast ∧ s.time.state = .holdover ∧ s.time.source = none := by decide

theorem witness_LinkTimeFollowsTheSource_5 :
    Passes 24 1 l1 (onSource .locked) ∧ pathOf 0 = some .a ∧ (onSource .locked).role = .mast ∧
      (onSource .locked).time.state = .locked ∧ (onSource .locked).time.source = some .a ∧
      firstUp (onSource .locked) = some .a := by decide

/-- Path A in UP and the epoch reference path, with the given count of the epoch comparison; the header of superframe 3 is
expected where `goodHeader` arrives. -/
def comparing (count : Nat) : State :=
  modSwitch (fun w => { w with refPath := some .a, split := count })
    (modFramer .a (fun f => { f with expected := some 3024 }) (putPath .a .up base))

theorem witness_EpochSplitBeginsAndEnds_1 :
    let a := { goodHeader with header := { goodHeader.header with epoch := 1 } }
    (comparing 19).switch.refPath = some .a ∧ firstUp (comparing 19) = some .a ∧
      inWindow ((comparing 19).framer.get .a) a.arrivalRef = true ∧ headerGood (comparing 19) a = true ∧
      1 ≤ ((comparing 19).sup.get .a).degradeThr ∧ a.header.level = (comparing 19).storm.peer ∧
      (comparing 19).storm.effective = higher (comparing 19).storm.own (comparing 19).storm.peer ∧
      a.header.epoch ≠ (comparing 19).plan.epoch ∧ (comparing 19).switch.split = 19 := by decide

theorem witness_EpochSplitBeginsAndEnds_2 :
    (comparing 7).switch.refPath = some .a ∧ firstUp (comparing 7) = some .a ∧
      inWindow ((comparing 7).framer.get .a) goodHeader.arrivalRef = true ∧ headerGood (comparing 7) goodHeader = true ∧
      goodHeader.header.level = (comparing 7).storm.peer ∧ goodHeader.header.epoch = (comparing 7).plan.epoch := by decide

theorem witness_EpochSplitBeginsAndEnds_3 :
    let a := { goodHeader with header := { goodHeader.header with epoch := 1 } }
    (comparing 18).switch.refPath = some .a ∧ firstUp (comparing 18) = some .a ∧
      inWindow ((comparing 18).framer.get .a) a.arrivalRef = true ∧ headerGood (comparing 18) a = true ∧
      1 ≤ ((comparing 18).sup.get .a).degradeThr ∧ a.header.level = (comparing 18).storm.peer ∧
      (comparing 18).storm.effective = higher (comparing 18).storm.own (comparing 18).storm.peer ∧
      a.header.epoch ≠ (comparing 18).plan.epoch ∧ (comparing 18).switch.split + 1 < 20 ∧
      20 ≤ (comparing 20).switch.split + 1 := by decide

theorem witness_EpochSplitBeginsAndEnds_4 : (comparing 7).switch.refPath ≠ some .b := by decide

theorem witness_EpochSplitBeginsAndEnds_5 :
    Passes 24 1 l1 (comparing 7) ∧ pathOf 0 = some .a ∧ (comparing 7).switch.refPath = some .a := by decide

/-- Path A in a state, its last superframe judged but for the last block at length 16. -/
def lastBlock (x : PathState) : State :=
  modFramer .a (fun f => { f with rx := some { result := .good, length := .l16, judged := 15, failed := 0, partSweep := false } })
    (modSup .a (fun v => { v with state := x, probCount := 199, recCount := 99, delay := some 160 }) base)

/-- The superframe record of `lastBlock`. -/
def lastRx : RxSuperframe := { result := .good, length := .l16, judged := 15, failed := 0, partSweep := false }

theorem witness_ProbationRecoveryAndDegradation_1 :
    pstate (lastBlock .probation) .a = .probation ∧ ((lastBlock .probation).framer.get .a).rx = some lastRx ∧
      blockFails lastRx goodBlock = false ∧ blocksOf .a lastRx.length ≤ lastRx.judged + 1 ∧
      ((lastBlock .probation).sup.get .a).probLen ≤ ((lastBlock .probation).sup.get .a).probCount + 1 ∧
      ((lastBlock .probation).sup.get .a).delay ≠ none := by decide

theorem witness_ProbationRecoveryAndDegradation_2 :
    pstate (lastBlock .degraded) .a = .degraded ∧ ((lastBlock .degraded).framer.get .a).rx = some lastRx ∧
      blockFails lastRx goodBlock = false ∧ blocksOf .a lastRx.length ≤ lastRx.judged + 1 ∧
      99 ≤ ((lastBlock .degraded).sup.get .a).recCount := by decide

theorem witness_ProbationRecoveryAndDegradation_3 :
    let r := { lastRx with failed := 3 }
    let s := modFramer .a (fun f => { f with rx := some r }) (lastBlock .up)
    pstate s .a = .up ∧ (s.framer.get .a).rx = some r ∧ blocksOf .a r.length ≤ r.judged + 1 ∧
      blockFails r { goodBlock with corrupted := 5 } = true ∧ (s.sup.get .a).degradeThr ≤ r.failed + 1 ∧
      blockFails r goodBlock = false ∧ r.failed < (s.sup.get .a).degradeThr := by decide

theorem witness_ProbationRecoveryAndDegradation_5 :
    pstate (lastBlock .degraded) .a = .degraded ∧ ((lastBlock .degraded).framer.get .a).rx = some lastRx ∧
      blocksOf .a lastRx.length ≤ lastRx.judged + 1 := by decide

theorem witness_ProbationRecoveryAndDegradation_4 :
    let s := modSup .a (fun v => { v with delay := none, probMet := true, probCount := 200 }) (lastBlock .probation)
    pstate s .a = .probation ∧ (s.framer.get .a).rx = some lastRx ∧ lastRx.result ≠ .missing ∧
      blocksOf .a lastRx.length ≤ lastRx.judged + 1 ∧ (s.sup.get .a).probMet = true ∧ (s.sup.get .a).delay = none ∧
      (s.sup.get .a).probLen ≤ (s.sup.get .a).probCount ∧ firstUp s = none ∧ s.role = .mast := by decide

/-- Path A in a state, its superframe's first block still to be judged. -/
def firstBlock (x : PathState) : State :=
  modFramer .a (fun f => { f with rx := some { lastRx with judged := 14 } }) (putPath .a x base)

theorem witness_BlocksAreJudged_1 :
    ((firstBlock .up).framer.get .a).rx = some { lastRx with judged := 14 } ∧ 14 + 1 < blocksOf .a lastRx.length ∧
      pstate (firstBlock .up) .a ≠ .sweep ∧ 5 ≤ ({ goodBlock with corrupted := 5 } : BlockArrival).corrupted ∧
      ({ goodBlock with sentLength := .l8 } : BlockArrival).sentLength ≠ lastRx.length := by decide

theorem witness_BlocksAreJudged_2 :
    pstate (firstBlock .probation) .a = .probation ∧ 14 + 1 < blocksOf .a lastRx.length ∧ goodBlock.complete = true ∧
      goodBlock.sentLength = lastRx.length ∧ ({ goodBlock with corrupted := 4 } : BlockArrival).corrupted < 5 := by decide

theorem witness_BlocksAreJudged_3 :
    pstate (firstBlock .up) .a = .up ∧ pstate (firstBlock .degraded) .a = .degraded ∧ goodBlock.complete = true ∧
      goodBlock.sentLength = lastRx.length ∧ goodBlock.corrupted < 5 := by decide

theorem witness_BlocksAreJudged_6 :
    ((lastBlock .up).framer.get .a).rx = some lastRx ∧ blocksOf .a lastRx.length ≤ lastRx.judged + 1 ∧
      pstate (lastBlock .up) .a ≠ .sweep ∧ pstate (lastBlock .probation) .a ≠ .sweep ∧ goodBlock.complete = true ∧
      goodBlock.sentLength = lastRx.length ∧ goodBlock.corrupted < 5 := by decide

theorem witness_BlocksAreJudged_5 : (base.framer.get .a).rx = none := by decide

/-! ### Witnesses: storm levels, shelter, parking -/

theorem witness_ParkAndWake_1 :
    Passes 29 1 l1 base ∧ base.storm.parking = .onAir ∧ base.switch.engine = .idle ∧ base.sweep.engine = .idle := by decide

theorem witness_ParkAndWake_6 :
    Passes 29 1 l1 sweepOnB ∧ sweepOnB.storm.parking = .onAir ∧ sweepOnB.switch.engine = .idle ∧
      sweepOnB.sweep.engine = .running { path := .b, counts := [0, 3], taken := 7, failed := 1 } ∧
      sweepOnB.disp.outbox.length < 31 := by decide

theorem witness_ParkAndWake_2 : Passes 29 1 l1 proposing ∧ proposing.switch.engine ≠ .idle := by decide

theorem witness_ParkAndWake_3 : Passes 30 1 l1 parkedState ∧ parkedState.storm.parking = .parked := by decide

theorem witness_ParkAndWake_4 : Passes 30 1 l1 base ∧ base.storm.parking = .onAir := by decide

/-- PARKING at a superframe start, with its message gone. -/
def parkingNow : State := modStorm (fun m => { m with parking := .parking { left := 1, moved := some 4 } }) atBoundary

theorem witness_ParkAndWake_5 : Passes 30 1 l1 parkingNow ∧ isParking parkingNow = true := by decide

/-- PARKED with every path OFF. -/
def parkedOff : State := putPath .a .off (putPath .b .off (putPath .w .off parkedState))

theorem witness_ParkAndWake_7 :
    DerivedSound parkedOff ∧ parkedOff.storm.parking = .parked ∧ parkedOff.sweep.engine = .idle ∧ Passes 30 1 l1 parkedOff ∧
      ∀ p, pstate parkedOff p = .off :=
  ⟨⟨by decide, by decide, by decide, by decide, by decide, by decide, fun r => (by cases r <;> decide), by decide, by decide,
      by decide, fun p => ⟨fun h => (by cases p <;> cases h), fun ⟨_, h, _⟩ => (by cases h)⟩, fun _ h => (by cases h)⟩,
    by decide, by decide, by decide, fun p => (by cases p <;> decide)⟩

theorem witness_ParkCompletes :
    boundary parkingNow = true ∧ parkingNow.storm.parking = .parking { left := 1, moved := some 4 } ∧
      drainedTo 4 parkingNow = true := by decide

theorem witness_ParkCompletes_2 : PlanSound parkingNow ∧ StoreSound parkingNow :=
  ⟨⟨by decide, by decide, by decide, by decide, by decide, by decide, by decide⟩,
    ⟨by decide +kernel, by decide, fun _ h => (by cases h)⟩⟩

/-- A state whose FIELD line, taken condition, debounce timer and own level are given. -/
def fieldAt (line taken : Bool) (own : Level) (debounce : Option Nat) : State :=
  modStorm (fun m => { m with fieldTaken := taken, own := own, effective := own, debounce := debounce })
    { base with fieldLine := line }

theorem witness_FieldIsDebouncedAndTaken_1 :
    base.fieldLine ≠ true ∧ base.storm.debounceMs ≠ 0 ∧ base.fieldLine = false := by decide

theorem witness_FieldIsDebouncedAndTaken_2 :
    (modStorm (fun m => { m with debounceMs := 0 }) base).fieldLine ≠ true ∧
      (modStorm (fun m => { m with debounceMs := 0 }) base).storm.debounceMs = 0 := by decide

theorem witness_FieldIsDebouncedAndTaken_4 :
    let s := fieldAt false false .calm (some 0)
    s.storm.debounce = some 0 ∧ (s.storm.fieldTaken = true ↔ (s.storm.fieldPolarity = .high ↔ s.fieldLine = true)) := by
  decide

theorem witness_FieldIsDebouncedAndTaken_5 :
    let s := fieldAt true false .calm (some 0)
    s.storm.debounce = some 0 ∧ s.storm.fieldTaken = false ∧ (s.storm.fieldPolarity = .high ↔ s.fieldLine = true) := by
  decide

theorem witness_FieldIsDebouncedAndTaken_7 :
    let s := fieldAt true false .calm (some 0)
    s.storm.own = .calm ∧ s.storm.effective = higher s.storm.own s.storm.peer := by decide

theorem witness_FieldIsDebouncedAndTaken_6 :
    let s := fieldAt false true .watch (some 0)
    s.storm.debounce = some 0 ∧ s.storm.fieldTaken = true ∧ ¬(s.storm.fieldPolarity = .high ↔ s.fieldLine = true) := by
  decide

/-- A FLASH and a SURGE were taken at reference instant 5,000, and the clock stands at the given instant. -/
def struck (now : Nat) : State :=
  modClock (fun c => { c with ref := now }) (modStorm (fun m => { m with lastFlash := some 5000, lastSurge := some 5000 }) base)

theorem witness_FlashAndSurgeEdges_1 :
    (struck 5999).storm.lastFlash = some 5000 ∧ (struck 5999).storm.lastSurge = some 5000 ∧
      (struck 5999).clock.ref < 5000 + 1000 := by decide

theorem witness_FlashAndSurgeEdges_3 :
    (struck 6000).storm.lastFlash = some 5000 ∧ (struck 6000).storm.lastSurge = some 5000 ∧
      5000 + 1000 ≤ (struck 6000).clock.ref ∧ base.storm.lastFlash = none ∧
      (struck 6000).storm.effective = higher (struck 6000).storm.own (struck 6000).storm.peer := by decide

theorem witness_FlashAndSurgeEdges_4 :
    (base.sup.get .b).exposed = true ∧ (base.sup.get .b).shelterMs ≠ 0 ∧ pstate base .b = .acquire ∧
      (base.sup.get .a).exposed = false ∧ inService twoUp .a = true := by decide

/-- Every path exposed: A in UP, B in PROBATION, W in ACQUIRE. -/
def exposedPaths : State :=
  modTime (fun x => { x with source := some .a })
    (modSwitch (fun w => { w with refPath := some .a })
      (modSup .a (fun v => { v with state := .up, exposed := true, shelterMs := 100 })
        (modSup .b (fun v => { v with state := .probation, exposed := true, shelterMs := 100 })
          (modSup .w (fun v => { v with exposed := true, shelterMs := 100 }) base))))

theorem witness_FlashAndSurgeEdges_5 :
    exposedPaths.storm.lastSurge = none ∧ DerivedSound exposedPaths ∧ inService exposedPaths .a = true ∧
      inService exposedPaths .b = true ∧ pstate exposedPaths .w = .acquire ∧ exposedPaths.sweep.engine = .idle :=
  ⟨by decide,
    ⟨by decide, by decide, by decide, by decide, by decide, by decide, fun r => (by cases r <;> decide), by decide,
      by decide, by decide, fun p => ⟨fun h => (by cases p <;> cases h), fun ⟨_, h, _⟩ => (by cases h)⟩, fun _ h => (by cases h)⟩,
    by decide, by decide, by decide, by decide⟩

theorem witness_FlashAndSurgeEdges_6 :
    base.storm.lastSurge = none ∧ DerivedSound base ∧ (base.sup.get .a).exposed = false :=
  ⟨by decide,
    ⟨by decide, by decide, by decide, by decide, by decide, by decide, fun r => (by cases r <;> decide), by decide,
      by decide, by decide, fun p => ⟨fun h => (by cases p <;> cases h), fun ⟨_, h, _⟩ => (by cases h)⟩, fun _ h => (by cases h)⟩,
    by decide⟩

/-- A sweep runs on the exposed path B, beside path A in UP, the time source. -/
def sweptAndExposed : State :=
  modTime (fun x => { x with source := some .a }) (modSwitch (fun w => { w with refPath := some .a }) sweepOnB)

theorem witness_FlashAndSurgeEdges_7 :
    sweptAndExposed.storm.lastSurge = none ∧ DerivedSound sweptAndExposed ∧
      sweptAndExposed.sweep.engine = .running { path := .b, counts := [0, 3], taken := 7, failed := 1 } ∧
      ShelterDue sweptAndExposed .b :=
  ⟨by decide,
    ⟨by decide, by decide, by decide, by decide, by decide, by decide, fun r => (by cases r <;> decide), by decide,
      by decide, by decide, fun p => ⟨fun h => (by cases p with | a => cases h | b => exact ⟨_, rfl, rfl⟩ | w => cases h),
        fun ⟨_, h, e⟩ => (by cases h; cases e; rfl)⟩,
      fun _ h => (by cases h; decide)⟩,
    by decide, by decide⟩

/-- An own level with one of its timers run out. -/
def levelOut (own : Level) (f : Storm → Storm) : State :=
  modStorm (fun m => f { m with own := own, effective := own }) base

theorem witness_LevelTimersAndPeerForget_1 :
    let s := levelOut .strike fun m => { m with strikeTimer := some 0 }
    s.storm.strikeTimer = some 0 ∧ s.storm.effective = higher s.storm.own s.storm.peer := by decide

theorem witness_LevelTimersAndPeerForget_2 :
    let s := levelOut .storm fun m => { m with stormTimer := some 0 }
    s.storm.stormTimer = some 0 ∧ s.storm.effective = higher s.storm.own s.storm.peer := by decide

theorem witness_LevelTimersAndPeerForget_3 :
    let s := levelOut .watch fun m => { m with watchTimer := some 0 }
    s.storm.watchTimer = some 0 ∧ s.storm.effective = higher s.storm.own s.storm.peer := by decide

theorem witness_LevelTimersAndPeerForget_4 :
    let s := levelOut .calm fun m => { m with peer := .strike, effective := .strike, forgetTimer := some 0 }
    s.storm.forgetTimer = some 0 ∧ s.storm.effective = higher s.storm.own s.storm.peer := by decide

/-! ### Witnesses: the margin sweep -/

/-- A sweep on path A with the given completed steps and reports taken. -/
def sweepOfA (steps taken : Nat) : CurrentSweep := { path := .a, counts := List.replicate steps 0, taken := taken, failed := 2 }

/-- The sweep engine in a state, path A in a state, path B in UP. -/
def sweepState (e : SweepEngine) (x : PathState) : State :=
  modSweep (fun w => { w with engine := e }) (putPath .a x (putPath .b .up base))

theorem witness_SweepCommands_1 :
    Passes 31 1 l1 twoUp ∧ pathOf 0 = some .a ∧ isParking twoUp = false ∧ stormy twoUp.storm.effective = false ∧
      twoUp.sweep.engine = .idle ∧ pstate twoUp .a = .up ∧ otherEligible twoUp .a = true := by decide

theorem witness_SweepCommands_2 :
    Passes 31 1 l1 base ∧ pathOf 2 = some .w ∧ isParking base = false ∧ stormy base.storm.effective = false ∧
      base.sweep.engine = .idle ∧ pstate base .w = .acquire ∧ pstate (putPath .a .degraded twoUp) .a = .degraded ∧
      otherEligible (putPath .a .degraded twoUp) .a = true := by decide

theorem witness_SweepCommands_3 :
    Passes 31 1 l1 parkingNow ∧ pathOf 0 = some .a ∧ isParking parkingNow = true ∧ Passes 31 1 l1 base ∧ pathOf 3 = none ∧
      isParking (levelOut .storm id) = false ∧ stormy (levelOut .storm id).storm.effective = true ∧
      pstate (putPath .a .off base) .a = .off ∧ pstate (putPath .a .up base) .a = .up ∧
      otherEligible (putPath .a .up base) .a = false := by decide

theorem witness_SweepCommands_4 :
    let s := sweepState (.running (sweepOfA 3 10)) .sweep
    Passes 32 1 l1 s ∧ s.sweep.engine = .running (sweepOfA 3 10) ∧ pstate s (sweepOfA 3 10).path = .sweep := by decide

theorem witness_SweepCommands_5 :
    let s := sweepState (.pending (sweepOfA 0 0)) .probation
    Passes 32 1 l1 s ∧ s.sweep.engine = .pending (sweepOfA 0 0) ∧ Passes 32 1 l1 base ∧ base.sweep.engine = .idle := by decide

theorem witness_SweepCommands_6 :
    let s := sweepState (.suspended (sweepOfA 3 0)) .up
    Passes 33 1 l1 s ∧ s.sweep.engine = .suspended (sweepOfA 3 0) ∧ stormy s.storm.effective = false ∧
      pstate s (sweepOfA 3 0).path = .up ∧ otherEligible s (sweepOfA 3 0).path = true := by decide

theorem witness_SweepCommands_7 :
    let s := sweepState (.suspended (sweepOfA 3 0)) .acquire
    Passes 33 1 l1 s ∧ s.sweep.engine = .suspended (sweepOfA 3 0) ∧ stormy s.storm.effective = false ∧
      pstate s (sweepOfA 3 0).path ≠ .up := by decide

theorem witness_SweepCommands_8 : Passes 33 1 l1 base ∧ base.sweep.engine = .idle := by decide

theorem witness_SweepCommands_9 :
    let s := sweepState (.running (sweepOfA 31 63)) .sweep
    Passes 34 1 l1 s ∧ s.sweep.engine = .running (sweepOfA 31 63) := by decide

theorem witness_SweepCommands_10 : Passes 34 1 l1 base ∧ base.sweep.engine = .idle := by decide

theorem witness_SweepStartsStepsAndCompletes_1 :
    let s := sweepState (.pending (sweepOfA 0 0)) .up
    s.sweep.engine = .pending (sweepOfA 0 0) ∧ pstate s (sweepOfA 0 0).path = .up ∧ otherEligible s .a = true ∧
      stormy s.storm.effective = false := by decide

/-- A running sweep on path A whose superframe has one block left to judge. -/
def sweepLast (c : CurrentSweep) : State :=
  modFramer .a (fun f => { f with rx := some lastRx }) (sweepState (.running c) .sweep)

theorem witness_SweepStartsStepsAndCompletes_2 :
    (sweepLast (sweepOfA 30 63)).sweep.engine = .running (sweepOfA 30 63) ∧ pstate (sweepLast (sweepOfA 30 63)) .a = .sweep ∧
      (sweepOfA 30 63).taken = 63 ∧ (sweepOfA 30 63).counts.length + 1 < 32 ∧
      ((sweepLast (sweepOfA 30 63)).framer.get .a).rx = some lastRx ∧ lastRx.result ≠ .missing ∧
      lastRx.partSweep = false ∧ blocksOf .a lastRx.length ≤ lastRx.judged + 1 := by decide

theorem witness_SweepStartsStepsAndCompletes_3 :
    (sweepLast (sweepOfA 31 63)).sweep.engine = .running (sweepOfA 31 63) ∧ pstate (sweepLast (sweepOfA 31 63)) .a = .sweep ∧
      (sweepOfA 31 63).counts.length = 31 ∧ ((sweepLast (sweepOfA 31 63)).framer.get .a).rx = some lastRx := by decide

theorem witness_BlocksAreJudged_4 :
    let s := sweepLast (sweepOfA 31 62)
    pstate s .a = .sweep ∧ (s.framer.get .a).rx = some lastRx ∧ blocksOf .a lastRx.length ≤ lastRx.judged + 1 ∧
      lastRx.result ≠ .missing ∧ s.sweep.engine = .running (sweepOfA 31 62) ∧ (sweepOfA 31 62).path = .a ∧
      lastRx.partSweep = false ∧ (sweepOfA 31 62).taken < 63 ∧ (sweepOfA 31 62).counts.length < 32 ∧
      pstate (firstBlock .sweep) .a = .sweep ∧ 14 + 1 < blocksOf .a lastRx.length := by decide

/-! ### Witnesses: traffic -/

/-- Stream 1 outbound at the MAST, path A and B in UP, 500 µs into a superframe. -/
def sending : State :=
  modClock (fun c => { c with link := 500 }) (modPlan (fun x => { x with active := sset x.active 1 audioUp }) twoUp)

theorem witness_IngressCellsArePolicedAndCopied_1 :
    NothingAhead sending ∧ (sget sending.plan.active 2).present = false ∧ NothingAhead base ∧
      (sget base.plan.active 31).present = false := by decide

theorem witness_IngressCellsArePolicedAndCopied_2 :
    let s := modDisp (fun d => { d with budget := sset d.budget 1 4 }) sending
    isParked s = false ∧ (sget s.plan.active 1).present = true ∧ runsOut s.role (sget s.plan.active 1).direction = true ∧
      budgetOf (sget s.plan.active 1) ≤ sget s.disp.budget 1 := by decide

theorem witness_IngressCellsArePolicedAndCopied_3 :
    let s := putPath .a .acquire (putPath .b .acquire (modRadio (fun r => { r with mode := .standby }) sending))
    (sget s.plan.active 1).present = true ∧ sget s.disp.budget 1 < budgetOf (sget s.plan.active 1) ∧
      eligible s .a = false ∧ eligible s .b = false ∧ eligible s .w = false ∧ s.radio.mode = .standby := by decide

theorem witness_IngressCellsArePolicedAndCopied_4 :
    NothingAhead sending ∧ isParked sending = false ∧ (sget sending.plan.active 1).present = true ∧
      runsOut sending.role (sget sending.plan.active 1).direction = true ∧
      sget (modDisp (fun d => { d with budget := sset d.budget 1 3 }) sending).disp.budget 1 <
        budgetOf (sget sending.plan.active 1) ∧
      eligible sending .a = true ∧ (sending.disp.queue.get .a).length < 512 ∧ (sending.disp.queue.get .b).length < 512 ∧
      (sending.disp.queue.get .w).length < 512 := by decide

theorem witness_IngressCellsArePolicedAndCopied_9 :
    let s := putPath .a .acquire (putPath .b .acquire sending)
    NothingAhead s ∧ isParked s = false ∧ (sget s.plan.active 1).present = true ∧
      runsOut s.role (sget s.plan.active 1).direction = true ∧ sget s.disp.budget 1 < budgetOf (sget s.plan.active 1) ∧
      eligible s .a = false ∧ eligible s .b = false ∧ eligible s .w = false ∧ s.radio.mode ≠ .standby := by decide

/-- `sending` with path A's queue full. -/
def queueFullOnA : State :=
  modDisp (fun d => { d with queue := d.queue.set .a (List.replicate 512 { cell := dataCell, due := 0, priority := 1, hold := 4000 }) })
    sending

theorem witness_IngressCellsArePolicedAndCopied_8 :
    NothingAhead queueFullOnA ∧ isParked queueFullOnA = false ∧ (sget queueFullOnA.plan.active 1).present = true ∧
      runsOut queueFullOnA.role (sget queueFullOnA.plan.active 1).direction = true ∧
      sget queueFullOnA.disp.budget 1 < budgetOf (sget queueFullOnA.plan.active 1) ∧ eligible queueFullOnA .a = true ∧
      512 ≤ (queueFullOnA.disp.queue.get .a).length ∧ (queueFullOnA.disp.queue.get .b).length < 512 := by decide +kernel

theorem witness_IngressCellsArePolicedAndCopied_5 :
    Path.a ∉ [Path.w] ∧ Path.b ∉ [Path.w] ∧ Path.a ≠ .b ∧ audioUp.preferred = some .a := by decide

theorem witness_IngressCellsArePolicedAndCopied_10 :
    ({ audioUp with preferred := some .w } : Descriptor).preferred = some .w ∧ Path.w ∉ [Path.a, .b] ∧
      Path.w ∈ Path.b :: [Path.w] := by decide

theorem witness_IngressCellsArePolicedAndCopied_6 :
    boundary switching = true ∧ switching.switch.engine = .armed inHandSwitch ∧
      inHandSwitch.n = superframeOf switching.clock.link ∧ ¬NothingAhead switching := by decide

theorem witness_IngressCellsArePolicedAndCopied_7 :
    atBoundary.clock.link % 1000 = 0 ∧ atBoundary.clock.rolled = false ∧ switchDue atBoundary = none := by decide

/-- A CANCEL waits in the outbox. -/
def outboxOne : State := place (.cancel .mast 1) sending

theorem witness_OutboxMovesAndSlotsServe_1 :
    NothingAhead outboxOne ∧ outboxOne.disp.outbox = [⟨.cancel .mast 1, .no⟩] ∧ eligible outboxOne .a = true ∧
      sget outboxOne.disp.budget 0 < budgetOf (sget outboxOne.plan.active 0) ∧
      (outboxOne.disp.queue.get .a).length < 512 := by decide

theorem witness_OutboxMovesAndSlotsServe_4 :
    let s := place (.cancel .mast 1) queueFullOnA
    NothingAhead s ∧ s.disp.outbox = [⟨.cancel .mast 1, .no⟩] ∧ eligible s .a = true ∧
      512 ≤ (s.disp.queue.get .a).length ∧ sget s.disp.budget 0 < budgetOf (sget s.plan.active 0) := by decide +kernel

theorem witness_OutboxMovesAndSlotsServe_5 :
    let s := putPath .a .acquire (putPath .b .acquire outboxOne)
    NothingAhead s ∧ s.disp.outbox = [⟨.cancel .mast 1, .no⟩] ∧ eligible s .a = false ∧ eligible s .b = false ∧
      eligible s .w = false := by decide

theorem witness_OutboxMovesAndSlotsServe_6 :
    let s := modDisp (fun d => { d with budget := sset d.budget 0 16 }) outboxOne
    NothingAhead s ∧ eligible s .a = true ∧ budgetOf (sget s.plan.active 0) ≤ sget s.disp.budget 0 := by decide

/-- The last slot of path A's superframe, 996 µs into it. -/
def slotNow : State :=
  modFramer .a (fun f => { f with tx := { sending := true, nextSlot := 249, closing := false, owed := none } })
    (modClock (fun c => { c with link := 996 }) sending)

/-- A copy that is due at 996 µs and expires a microsecond later. -/
def dueCopy : Copy := { cell := { dataCell with origin := 65534997 }, due := 996, priority := 1, hold := 2000 }

theorem witness_OutboxMovesAndSlotsServe_2 :
    slotDue slotNow .a = true ∧ slotNow.disp.queue.get .a = [] ∧ slotNow.disp.expired.get .a ≤ 65535 := by decide

theorem witness_OutboxMovesAndSlotsServe_3 :
    let s := modDisp (fun d => { d with queue := d.queue.set .a [dueCopy] }) slotNow
    slotDue s .a = true ∧ selectCopy s.clock.link (s.disp.queue.get .a) = some dueCopy ∧
      hasExpired s.clock.link dueCopy = false := by decide +kernel

theorem witness_OutboxMovesAndSlotsServe_7 :
    let c := { dueCopy with hold := 1999 }
    let s := modDisp (fun d => { d with queue := d.queue.set .a [c, dueCopy] }) slotNow
    slotDue s .a = true ∧ selectCopy s.clock.link (s.disp.queue.get .a) = some c ∧
      hasExpired s.clock.link c = true := by decide +kernel

theorem witness_OutboxMovesAndSlotsServe_8 :
    let d := { dueCopy with due := 65535999 }
    996 < 65536000 ∧ d.due < 65536000 ∧ d.cell.origin < 65536000 ∧ isDue 996 d = true ∧ isDue 996 dueCopy = true ∧
      goesAhead 996 d dueCopy = true := by decide +kernel

theorem witness_SuperframeStartSendsHeaders_1 :
    boundary atBoundary = true ∧ atBoundary.clock.rolled = false ∧ NothingElseAtStart atBoundary ∧
      sendsSlots (pstate atBoundary .a) = true ∧ atBoundary.switch.run = none ∧ atBoundary.disp.outbox.length < 32 := by decide

theorem witness_SuperframeStartSendsHeaders_5 :
    let s := modClock (fun c => { c with rolled := true }) atBoundary
    boundary s = true ∧ s.clock.rolled = true ∧ NothingElseAtStart s := by decide

/-- PARKED at a superframe start with path A OFF, path B owing a closing header, and a cancel run at its last superframe. -/
def parkedAtBoundary (last : SfNum) : State :=
  modStorm (fun m => { m with parking := .parked })
    (modSwitch (fun w => { w with run := some { epoch := 3, last := last, placedIn := 0 } })
      (modFramer .b (fun f => { f with tx := { f.tx with closing := true } })
        (putPath .b .shelter (putPath .a .off (putPath .w .off atBoundary)))))

theorem witness_SuperframeStartSendsHeaders_3 :
    let s := parkedAtBoundary 1
    boundary s = true ∧ s.clock.rolled = false ∧ NothingElseAtStart s ∧ pstate s .a = .off ∧ isParked s = true ∧
      (s.sup.get .a).enable = true ∧ pstate s .b = .shelter ∧ (s.framer.get .b).tx.closing = true ∧ pstate s .w = .off ∧
      (1 - superframeOf s.clock.link).toNat < 32768 ∧ 32768 ≤ (0 - superframeOf s.clock.link).toNat := by decide

/-- PARKING and a pending reset, each with three starts to wait. -/
theorem witness_SuperframeStartSendsHeaders_4 :
    let w : Drain := { left := 3, moved := none }
    let s := modPorts (fun x => { x with resetPending := some w }) (modStorm (fun m => { m with parking := .parking w }) atBoundary)
    boundary s = true ∧ s.clock.rolled = false ∧ NothingElseAtStart s := by decide

theorem witness_SuperframeStartSendsHeaders_2 : boundary base = false := by decide

/-- Stream 1 inbound at the MAST with its window anchored at sequence 5, path A in UP, link time 3,000 in LOCKED. -/
def taking (strays : Nat) (store : CellStore) : State :=
  modRejoin (fun r =>
      { r with
        windows := sset r.windows 1 (some { freshWindow 16 64 with anchored := true, nr := 5, strayRun := strays })
        store := store })
    (modTime (fun x => { x with state := .locked })
      (modClock (fun c => { c with link := 3000 }) (modPlan (fun x => { x with active := sset x.active 1 audioDown }) twoUp)))

/-- The window of `taking`. -/
def takingWindow (strays : Nat) : Window := { freshWindow 16 64 with anchored := true, nr := 5, strayRun := strays }

/-- A copy of stream 1 of the given sequence, sent at 2,500. -/
def copyOfOne (q : Seq) (quality : Quality) : Taken :=
  { path := .a, quality := quality, copy := ⟨{ dataCell with seq := q, origin := 2500 }, 2900⟩ }

theorem witness_RejoinTakesCopiesAndResyncs_1 :
    let s := taking 7 []
    let c := copyOfOne 21 .clean
    eligible s c.path = true ∧ c.copy.cell.fill = false ∧ s.time.state ≠ .free ∧
      windowOf s c.copy.cell.stream = some (takingWindow 7) ∧ isStray (takingWindow 7) c = true ∧
      (takingWindow 7).strayRun = 7 ∧ 0 < (takingWindow 7).span ∧ isLate s c = false ∧ isEarly s c = false := by decide

theorem witness_RejoinTakesCopiesAndResyncs_2 :
    let s := taking 0 []
    let c := copyOfOne 20 .corrected
    windowOf s c.copy.cell.stream = some (takingWindow 0) ∧ inSpan (takingWindow 0) c = true ∧ isLate s c = false ∧
      isEarly s c = false ∧ s.rejoin.store.read (64 + (20 : Seq).toNat % 16) = none := by decide

theorem witness_RejoinTakesCopiesAndResyncs_3 :
    let h := heldOf (copyOfOne 20 .corrected)
    let s := taking 0 [(68, h)]
    inSpan (takingWindow 0) (copyOfOne 20 .clean) = true ∧ isLate s (copyOfOne 20 .clean) = false ∧
      isEarly s (copyOfOne 20 .clean) = false ∧ s.rejoin.store.read (64 + (20 : Seq).toNat % 16) = some h ∧
      h.quality = .corrected := by decide +kernel

theorem witness_RejoinTakesCopiesAndResyncs_10 :
    let s := taking 0 [(68, heldOf (copyOfOne 20 .clean))]
    inSpan (takingWindow 0) (copyOfOne 20 .clean) = true ∧ isLate s (copyOfOne 20 .clean) = false ∧
      isEarly s (copyOfOne 20 .clean) = false ∧
      s.rejoin.store.read (64 + (20 : Seq).toNat % 16) = some (heldOf (copyOfOne 20 .clean)) ∧
      (heldOf (copyOfOne 20 .clean)).quality = .clean := by decide +kernel

/-- Stream 1's window unanchored. -/
def awaiting : State := modRejoin (fun r => { r with windows := sset r.windows 1 (some (freshWindow 16 64)) }) (taking 0 [])

/-- A copy of stream 1 with an origin time. -/
def copySentAt (q : Seq) (origin : Nat) : Taken := { copyOfOne q .clean with copy := ⟨{ dataCell with seq := q, origin := origin }, 2900⟩ }

/-- Stream 1's hold is 2,000 µs: at link time 3,000 a copy sent at 1,000 is LATE, one sent at 5,001 EARLY. -/
theorem witness_RejoinTakesCopiesAndResyncs_4 :
    windowOf awaiting 1 = some (freshWindow 16 64) ∧ (freshWindow 16 64).anchored = false ∧
      isLate awaiting (copySentAt 9 1000) = true ∧ isLate awaiting (copySentAt 9 1001) = false ∧
      isEarly awaiting (copySentAt 9 5001) = true ∧ isLate awaiting (copySentAt 9 5001) = false ∧
      isEarly awaiting (copySentAt 9 5000) = false := by decide

theorem witness_RejoinTakesCopiesAndResyncs_5 :
    let s := taking 6 []
    windowOf s 1 = some (takingWindow 6) ∧ inSpan (takingWindow 6) (copySentAt 20 1000) = true ∧
      (takingWindow 6).next ≠ some s.clock.link ∧ isLate s (copySentAt 20 1000) = true ∧
      isEarly s (copySentAt 5 5001) = true := by decide

theorem witness_RejoinTakesCopiesAndResyncs_6 :
    (takingWindow 6).span ≤ seqDist 4 (takingWindow 6).nr ∧ 32768 ≤ seqDist 4 (takingWindow 6).nr ∧
      atOrAfter (takingWindow 6).originMark 0 = true ∧ atOrAfter (takingWindow 6).originMark 1 = false ∧
      (takingWindow 6).strayRun < 7 ∧ (takingWindow 6).span ≤ seqDist 21 (takingWindow 6).nr ∧
      seqDist 21 (takingWindow 6).nr < 32768 := by decide

theorem witness_RejoinTakesCopiesAndResyncs_7 :
    base.role = .mast ∧ base.time.state = .free ∧ (taking 0 []).time.state ≠ .free ∧ windowOf (taking 0 []) 2 = none := by
  decide

/-- Stream 1's window holds sequence 7 behind two missing ones, and its release time has come. -/
def releasing : State :=
  modClock (fun c => { c with link := 4500 })
    (modRejoin (fun r => { r with windows := sset r.windows 1 (some { takingWindow 0 with next := some 4500 }) })
      (taking 0 [(71, heldOf (copyOfOne 7 .clean))]))

/-- The copy taken first, at the release time, of the very cell that is released (R100). -/
theorem witness_RejoinTakesCopiesAndResyncs_8 :
    let w := { takingWindow 0 with next := some 4500 }
    windowOf releasing 1 = some w ∧ w.anchored = true ∧ inSpan w (copyOfOne 7 .clean) = true ∧
      BeingReleased releasing w (copyOfOne 7 .clean) ∧ isLate releasing (copyOfOne 7 .clean) = true :=
  ⟨by decide +kernel, by decide, by decide, ⟨rfl, heldOf (copyOfOne 7 .clean), by decide +kernel⟩, by decide⟩

/-- `taking` with a stray run of 7: the eighth STRAY may be LATE or EARLY. -/
theorem witness_RejoinTakesCopiesAndResyncs_9 :
    let s := taking 7 []
    eligible s (copySentAt 21 1000).path = true ∧ windowOf s 1 = some (takingWindow 7) ∧
      isStray (takingWindow 7) (copySentAt 21 1000) = true ∧ (takingWindow 7).strayRun = 7 ∧
      isLate s (copySentAt 21 1000) = true ∧ isStray (takingWindow 7) (copySentAt 21 5001) = true ∧
      isEarly s (copySentAt 21 5001) = true := by decide

theorem witness_ReleaseEventSendsTheCell_1 :
    windowOf releasing 1 = some { takingWindow 0 with next := some 4500 } ∧ releasing.clock.link = 4500 ∧
      lowestHeld releasing { takingWindow 0 with next := some 4500 } = some (heldOf (copyOfOne 7 .clean)) := by decide +kernel

/-- Stream 0's window holds a cell whose payload is a CANCEL from the truck, and its release time has come. -/
def delivering : State :=
  modClock (fun c => { c with link := 4500 })
    (modRejoin (fun r =>
      { r with
        windows := sset r.windows 0 (some { freshWindow 64 0 with anchored := true, nr := 9, next := some 4500 })
        store := [(9, { cell := { dataCell with stream := 0, seq := 9, origin := 2500, payload := messagePayload (.cancel .truck 1) },
                        path := .a, quality := .clean, arrival := 2900 })] }) base)

theorem witness_ReleaseEventSendsTheCell_2 :
    windowOf delivering 0 = some { freshWindow 64 0 with anchored := true, nr := 9, next := some 4500 } ∧
      (lowestHeld delivering { freshWindow 64 0 with anchored := true, nr := 9, next := some 4500 }).map (fun h => messageOf h.cell.payload) =
        some (some (.cancel .truck 1)) := by decide

theorem witness_ReleaseEventSendsTheCell_3 :
    let w := { freshWindow 64 0 with anchored := true, nr := 9, next := some 4500 }
    let s := modRejoin (fun r => { r with store := r.store.map fun e =>
      (e.1, { e.2 with cell := { e.2.cell with payload := List.replicate 240 0 } }) }) delivering
    windowOf s 0 = some w ∧ w.next = some s.clock.link ∧
      (lowestHeld s w).map (fun h => messageOf h.cell.payload) = some none := by decide

/-- `delivering` with sequence 10, overdue as it becomes the lowest held cell, and sequence 11, which is not. -/
def behindOverdue : State :=
  modRejoin (fun r =>
    { r with
      store := r.store ++
        [(10, { cell := { dataCell with stream := 0, seq := 10, origin := 1000 }, path := .b, quality := .clean, arrival := 2900 }),
          (11, { cell := { dataCell with stream := 0, seq := 11, origin := 2600 }, path := .b, quality := .clean,
                 arrival := 2900 })] }) delivering

theorem witness_ReleaseEventSendsTheCell_6 :
    PlanSound behindOverdue ∧ StoreSound behindOverdue ∧
      (heldIn behindOverdue (freshWindow 64 0)).map (fun e => (e.1, overdue behindOverdue 0 e.2)) =
        [(9, false), (10, true), (11, false)] :=
  ⟨⟨by decide, by decide, by decide, by decide +kernel, by decide +kernel, fun h => absurd rfl h, fun h => absurd rfl h⟩,
    ⟨by decide +kernel, by decide,
      List.forall_mem_cons.mpr ⟨⟨_, rfl, rfl⟩, List.forall_mem_cons.mpr ⟨⟨_, rfl, rfl⟩,
        List.forall_mem_cons.mpr ⟨⟨_, rfl, rfl⟩, fun _ h => (by cases h)⟩⟩⟩⟩,
    by decide +kernel⟩

theorem witness_ReleaseEventSendsTheCell_7 : PlanSound releasing ∧ StoreSound releasing :=
  ⟨⟨by decide, by decide, by decide, by decide +kernel, by decide +kernel, fun h => absurd rfl h, fun h => absurd rfl h⟩,
    ⟨by decide +kernel, by decide, List.forall_mem_cons.mpr ⟨⟨_, rfl, rfl⟩, fun _ h => (by cases h)⟩⟩⟩

theorem witness_ReleaseEventSendsTheCell_5 :
    parseFrame [2] = .request .status ∧ commandFrom (.pt .lp2 1 9) .status = some (.status (.pt .lp2 1 9)) ∧
      parseFrame [35] = .unknown 35 ∧ parseFrame [2, 0] = .discarded ∧ parseFrame [] = .ignored := by decide

theorem witness_ReleaseEventSendsTheCell_4 : releaseDue base 0 = none := by decide

/-! ### Witnesses: the invariants -/

theorem witness_StepsKeepThePlanSound : PlanSound base ∧ step base = .next (idle base) :=
  ⟨⟨by decide, by decide, by decide, by decide, by decide, by decide, by decide⟩, rfl⟩

theorem witness_StepsKeepTheStoreSound : StoreSound base ∧ windowOf base 0 = some (freshWindow 64 0) :=
  ⟨⟨by decide +kernel, by decide, fun _ h => (by cases h)⟩, by decide +kernel⟩

theorem witness_StepsKeepWhatIsDerived : DerivedSound base :=
  ⟨by decide, by decide, by decide, by decide, by decide, by decide, fun r => (by cases r <;> decide), by decide, by decide,
    by decide, fun p => ⟨fun h => (by cases p <;> cases h), fun ⟨_, h, _⟩ => (by cases h)⟩, fun _ h => (by cases h)⟩

theorem witness_StepsKeepTheLimits : WithinLimits base :=
  ⟨by decide, fun p => (by cases p <;> decide), by decide, by decide, fun _ h => (by cases h)⟩

/-! ### One step of a command -/

/-- The state a row leaves; the given state where it answers none. -/
def after (i : Instr) (s : State) : State :=
  match exec i s with
  | .next t => t
  | _ => s

/-- The code, status number, note flag and number of the record in a port's slot. -/
def slotOf (p : Port) (s : State) : Option (Nat × Nat × Bool × Nat) :=
  (s.ports.lp.get p).slot.map fun r => (r.1.code.toNat, r.1.status.toNat, r.1.noted, r.1.number.toNat)

/-- R171, R172: STATUS answers DONE (1) as record 1; FETCH takes it and lowers READY, and a second FETCH repeats it. -/
theorem test_status_then_fetch :
    slotOf .lp1 (after (.status l1) base) = some (2, 1, false, 1) ∧ ready (after (.status l1) base) .lp1 = true ∧
      ready (after (.fetch .lp1) (after (.status l1) base)) .lp1 = false ∧
      (((after (.fetch .lp1) (after (.fetch .lp1) (after (.status l1) base))).ports.lp.get .lp1).dataOut.map fun r => r.repeated) =
        some true := by decide

/-- R170: UNKNOWN-COMMAND is 20. -/
theorem test_unknown_command : slotOf .lp2 (after (.unknownCommand .lp2 35) base) = some (35, 20, false, 1) := by decide

theorem test_frame_discarded_counts :
    ((after (.frameDiscarded .lp1) base).ports.lp.get .lp1).framesDiscarded = 1 ∧
      slotOf .lp1 (after (.frameDiscarded .lp1) base) = none := by decide

/-- R174: LAST-RANK-ZERO is 19. -/
theorem test_last_rank_zero : slotOf .lp1 (after (.setRank l1 0 1) base) = some (4, 19, false, 1) := by decide

/-- R173: LP2 is at rank 2 and PIN needs rank 0; RANK is 7. -/
theorem test_pin_needs_rank_zero :
    slotOf .lp2 (after (.pin l2) base) = some (5, 7, false, 1) ∧ (after (.pin l2) base).holdUp.pinnedFlag = false ∧
      (after (.pin l1) base).holdUp.pinnedFlag = true := by decide

/-- R14: a lapse time of 4 s is clamped to 5 s and noted. -/
theorem test_claim_clamps :
    (after (.claim l2 { lapse := some 4, badPresence := false }) base).plan.lapseTimer = some 5000000 ∧
      slotOf .lp2 (after (.claim l2 { lapse := some 4, badPresence := false }) base) = some (7, 1, true, 1) := by decide

/-- R11: hold 400 is clamped to 320. -/
theorem test_set_stream_clamps :
    (sget (after (.setStream l1 3 { noStream with hold := some 400 }) held).plan.staged 3).hold = 320 := by decide

/-- R138: at superframe 0 the default lead of 50 gives N = 50, and the claim is free; ACCEPTED is 2. -/
theorem test_commit :
    (after (.commit l1 noCommit) lockedHeld).switch.engine =
        .proposing { epoch := 1, tag := 1, n := 50, proposer := .mast } ∧
      (after (.commit l1 noCommit) lockedHeld).plan.holder = none ∧
      slotOf .lp1 (after (.commit l1 noCommit) lockedHeld) = some (12, 2, false, 1) := by decide

theorem test_abort_switch :
    (after (.abortSwitch l2) proposing).switch.engine = .idle ∧
      (after (.abortSwitch l2) proposing).switch.last =
        some { epoch := 1, outcome := .aborted, proposer := .mast, n := 100 } := by decide

theorem test_read_path_undefined : slotOf .lp2 (after (.readPath l2 3) base) = some (16, 8, false, 1) := by decide

/-- R68: path A off has an empty queue. -/
theorem test_path_off :
    pstate (after (.pathEnable l1 0 0) twoUp) .a = .off ∧ ((after (.pathEnable l1 0 0) twoUp).sup.get .a).enable = false := by
  decide

/-- R72: 250 ms of warm-up. -/
theorem test_wake_radio : (after (.wakeRadio l1) (radioIn .standby)).radio.warmTimer = some 250000 := by decide

/-- R158: with path A alone in service a SWEEP of it is refused, LAST-PATH (11). -/
theorem test_sweep_last_path : slotOf .lp1 (after (.sweep l1 0) (putPath .a .up base)) = some (31, 11, false, 1) := by decide

theorem test_sweep_starts :
    pstate (after (.sweep l1 0) twoUp) .a = .sweep ∧ slotOf .lp1 (after (.sweep l1 0) twoUp) = some (31, 2, false, 1) := by
  decide

/-- R127: PARK places a PARKING message. -/
theorem test_park :
    isParking (after (.park l1) base) = true ∧ (after (.park l1) base).disp.outbox.map (·.msg) = [.parking .mast 0] := by decide

/-- R176: the tunnel's timeout is 100 ms and its first tag is 0. -/
theorem test_tunnel :
    ((after (.tunnel l2 [2]) base).ports.lp.get .lp2).tunnel =
        some { tag := 0, timeout := 100000, parts := [], lastPart := none } ∧
      (after (.tunnel l2 [2]) base).disp.outbox.map (·.msg) = [.tunnelRequest .mast .lp2 2 0 [2]] := by decide

/-- R181: RESET from PT marks a reset pending. -/
theorem test_reset_from_pt : (after (.reset far) ptZero).ports.resetPending.isSome = true := by decide

/-- R180: a soft reset keeps the strike counter and writes its cause. -/
theorem test_soft_reset :
    (after (.reset l1) (modHoldUp (fun h => { h with strikes := 9 }) base)).holdUp.strikes = 9 ∧
      (after (.reset l1) base).holdUp.cause = .soft := by decide

/-- R114: FLASH takes CALM to WATCH and WATCH to STORM. -/
theorem test_flash :
    (after .flashEdge base).storm.own = .watch ∧ (after .flashEdge (levelOut .watch id)).storm.own = .storm ∧
      (after .flashEdge base).holdUp.strikes = 1 := by decide

/-- R115, R122: SURGE takes any level to STRIKE for 2,000 ms. -/
theorem test_surge :
    (after .surgeEdge base).storm.own = .strike ∧ (after .surgeEdge base).storm.strikeTimer = some 2000000 := by decide

/-- R124, R125: of three exposed paths W and B are sheltered, and A, the last in service, is kept. -/
theorem test_surge_orders :
    let t := after .surgeEdge exposedPaths
    pstate t .w = .shelter ∧ pstate t .b = .shelter ∧ pstate t .a = .up ∧ (t.framer.get .b).tx.closing = true ∧
      t.storm.shelters = ⟨0, 1, 1⟩ ∧ t.storm.lastPathKept = ⟨1, 0, 0⟩ := by decide

/-- R63: an unclean superframe sets the recovery count to 0. -/
theorem test_recovery_restarts :
    ((after (.blockJudged .a { goodBlock with corrupted := 5 }) (lastBlock .degraded)).sup.get .a).recCount = 0 := by decide

/-- R186: RESTART stands in LP1's set, so enabling it raises ATTENTION. -/
theorem test_attention :
    attention (after (.setEnables l1 0x00800000) base) .lp1 = true ∧ attention (after (.setEnables l1 0x00400000) base) .lp1 = false := by
  decide

/-- R61: the third header of a run completes acquisition. -/
theorem test_acquisition : pstate (after (.headerReceived .a goodHeader) acquiring) .a = .probation := by decide

/-- R64: a second miss in a row loses alignment. -/
theorem test_alignment_loss :
    pstate (after (.headerMissing .a) (tracking 1)) .a = .acquire ∧ pstate (after (.headerMissing .a) (tracking 0)) .a = .up := by
  decide

/-- R62: the 200th clean superframe of probation. -/
theorem test_probation : pstate (after (.blockJudged .a goodBlock) (lastBlock .probation)) .a = .up := by decide

/-- R28: DUAL with A preferred queues one copy on A and one on B, of sequence 0. -/
theorem test_ingress :
    let t := after (.ingressCell 1 (List.replicate 240 7)) sending
    (t.disp.queue.get .a).map (fun c => (c.cell.seq, c.cell.copyIndex, c.due)) = [(0, 0, 500)] ∧
      (t.disp.queue.get .b).map (fun c => (c.cell.seq, c.cell.copyIndex, c.due)) = [(0, 1, 500)] ∧
      t.disp.queue.get .w = [] ∧ sget t.disp.nextSeq 1 = 1 := by decide

/-- R36: the slot sends the due copy. -/
theorem test_slot :
    (after (.slotStart .a) (modDisp (fun d => { d with queue := d.queue.set .a [dueCopy] }) slotNow)).disp.queue.get .a = [] := by
  decide +kernel

/-- R36, R37: an expired copy of a higher priority is counted, and the same slot sends the next. -/
theorem test_slot_selects_again :
    let t := after (.slotStart .a)
      (modDisp (fun d => { d with queue := d.queue.set .a [dueCopy, { dueCopy with priority := 2, hold := 1999 }] }) slotNow)
    t.disp.queue.get .a = [] ∧ t.disp.expired.get .a = 1 := by decide +kernel

/-- R97, R98: a gap marker of two, then the cell; NR is the sequence behind it. -/
theorem test_release :
    (after (.releaseEvent 1) releasing).out.egress.map (fun r =>
        match r with | .gap i f n => (i.val, f.toNat, n) | .cell i q _ _ _ _ => (i.val, q.toNat, 0) | .restart i _ => (i.val, 0, 0)) =
      [(1, 5, 2), (1, 7, 0)] ∧
      (windowOf (after (.releaseEvent 1) releasing) 1).map (fun w => w.nr) = some 8 := by decide

/-- R150: a CANCEL at an IDLE engine is late. -/
theorem test_delivery : (after (.releaseEvent 0) delivering).switch.lateCancels = 1 := by decide

/-- R148: the switch takes the pending epoch. -/
theorem test_plan_switch :
    (after .planSwitch (modClock (fun c => { c with link := 100000, started := false, rolled := false })
      (modSwitch (fun w => { w with engine := .armed inHandSwitch }) base))).plan.epoch = 1 := by decide +kernel

/-- R43: the start of a superframe sends one header on path A. -/
theorem test_superframe_start :
    ((after .superframeStart atBoundary).framer.get .a).tx.sending = true ∧
      ((after .superframeStart atBoundary).out.lines.get .a).length = 1 := by decide

/-- A microsecond passes. -/
theorem test_tick : (idle base).clock.link = 1 ∧ (idle base).clock.ref = 1 ∧ nextDue atBoundary = some .superframeStart := by
  decide

/-- R23, R24, R148: a cell at the first instant of the switch superframe, ahead of PLAN_SWITCH, goes under the new plan. -/
theorem test_ingress_at_switch :
    let t := after (.ingressCell 1 (List.replicate 240 7))
      (modPlan (fun x => { x with staged := sset x.staged 1 audioUp }) (modDisp (fun d => { d with budget := sall 4 })
        (putPath .a .up switching)))
    t.plan.epoch = 1 ∧ sget t.disp.budget 1 = 1 ∧ sget t.disp.ingressRefused 1 = 0 := by decide +kernel

/-- R100: a copy of the cell that is being released, taken first, is a DUPLICATE. -/
theorem test_copy_at_release :
    (sget (takeCopy (copyOfOne 7 .clean) releasing).rejoin.counts 1).duplicates = 1 ∧
      (sget (takeCopy (copyOfOne 7 .clean) releasing).rejoin.counts 1).late = 0 := by decide +kernel

/-- R96, R100: sequences 7 and 9 share the release time that has come; a copy of 9 is a DUPLICATE before the release of 7. -/
theorem test_copy_of_second_at_release :
    let s := modRejoin (fun r => { r with store := [(71, heldOf (copyOfOne 7 .clean)), (73, heldOf (copyOfOne 9 .clean))] }) releasing
    (sget (takeCopy (copyOfOne 9 .clean) s).rejoin.counts 1).duplicates = 1 ∧
      (sget (takeCopy (copyOfOne 9 .clean) (after (.releaseEvent 1) s)).rejoin.counts 1).duplicates = 1 := by decide +kernel

/-- R43: the check bytes of the last block leave when its last slot ends, 4 µs after its start. -/
theorem test_check_follows_last_slot :
    let t := after (.slotStart .a) slotNow
    (t.framer.get .a).tx.owed = some 31 ∧ (tick t).out.lines.get .a = t.out.lines.get .a ∧
      ((tick (tick (tick (tick t)))).out.lines.get .a).getLast? = some (.check 31) := by decide +kernel

/-- R47: a path that enters SHELTER inside the last slot of a block sends that block without check bytes. -/
theorem test_shelter_cuts_check :
    let t := after .surgeEdge (after (.slotStart .b)
      (modFramer .b (fun f => { f with tx := { sending := true, nextSlot := 249, closing := false, owed := none } }) slotNow))
    pstate t .b = .shelter ∧ (t.framer.get .b).tx.owed = none := by decide +kernel

/-- R62: a count that waits for the estimate stays, one above a lowered length with the estimate set rises. -/
theorem test_probation_count :
    ((after (.blockJudged .a goodBlock)
        (modSup .a (fun v => { v with delay := none, probMet := true, probCount := 200 }) (lastBlock .probation))).sup.get .a).probCount =
      200 ∧
    ((after (.blockJudged .a goodBlock)
        (modSup .a (fun v => { v with probCount := 150, probLen := 100 }) (lastBlock .probation))).sup.get .a).probCount = 151 := by
  decide

/-- R69: a probation length lowered after the last report does not complete probation at the first delay sample. -/
theorem test_probation_waits_for_report :
    let s := modSup .a (fun v => { v with probCount := 20, probLen := 20 }) (putPath .a .probation (tracking 0))
    pstate (after (.headerReceived .a expectedHeader) s) .a = .probation ∧
      pstate (after (.headerReceived .a expectedHeader) (modSup .a (fun v => { v with probMet := true }) s)) .a = .up := by decide

/-- R76, R79: the sample of 20 µs moves D from 800 to 710, that is 89 µs; the error is 3,000 + 89 − 3,020. -/
theorem test_setting :
    ((after (.headerReceived .a expectedHeader) (onSource .free)).time.state,
        (after (.headerReceived .a expectedHeader) (onSource .free)).time.lastError) = (.locked, some 69) := by decide

theorem witness_ResetsAreSound :
    WithinLimits base ∧ PlanSound base ∧ exec (.powerOnReset .truck) base = .next (after (.powerOnReset .truck) base) :=
  ⟨witness_StepsKeepTheLimits, witness_StepsKeepThePlanSound.1, rfl⟩

end Sys2Proof.Tests
end

/-! What the stream plan's owner commands PIN, UNPIN, RELEASE, CLEAR-STREAM and REVERT do to the state and answer, one
equation for each case, and the obligations about them. -/

namespace Sys2Proof.Machine

section PlanCommands

variable {src : Source} {index : Byte} {i : StreamIx} {h r : Requester} {k : KindSet} {s : State}

/-! ### From a row to its owner -/

/-- A row that is a command passing the checks of R173 is settled by what its owner does on the state that took it. -/
theorem serve_eq_respond {code : Byte} {need : Nat} {own : State → State × Answer} {t : State} {a : Answer}
    (hp : Passes code need src s) (ho : own (received src s) = (t, a)) :
    (.next (serve code need src own s) : Host.Outcome State Fault Refusal) =
      .next (respond src code a (received src s) t) := by
  rw [serve_of_passes own hp, ho]

theorem exec_pin : exec (.pin src) s = .next (serve 5 0 src ownPin s) := rfl

theorem exec_unpin : exec (.unpin src) s = .next (serve 6 0 src ownUnpin s) := rfl

theorem exec_release : exec (.release src) s = .next (serve 8 2 src (ownRelease src) s) := rfl

theorem exec_clearStream : exec (.clearStream src index) s = .next (serve 10 2 src (ownClearStream src index) s) := rfl

theorem exec_revert : exec (.revert src) s = .next (serve 11 2 src (ownRevert src) s) := rfl

theorem exec_claimLapse : exec .claimLapse s = .next (lapseStep s) := rfl

/-- Taking a request, which counts it when it comes from PT, changes no rank (R173). -/
@[simp] theorem effectiveRank_received (src' : Source) : effectiveRank (received src' s) src = effectiveRank s src := by
  simp [effectiveRank]

/-! ### Pinning (R20, R21) -/

theorem ownPin_of_idle (hidle : s.switch.engine = .idle) :
    ownPin s =
      ({ s with holdUp := { s.holdUp with pinned := s.plan.active, pinnedEpoch := s.plan.epoch, pinnedFlag := true } },
        bare .done) := by
  simp [ownPin, engineIdle, hidle, modHoldUp]

theorem ownPin_of_busy (hbusy : s.switch.engine ≠ .idle) : ownPin s = (s, bare .busy) := by
  simp [ownPin, engineIdle, hbusy]

theorem ownUnpin_eq : ownUnpin s = ({ s with holdUp := { s.holdUp with pinnedFlag := false } }, bare .done) := rfl

/-- Settles O26: PIN by the state of the switch engine, UNPIN in every state. -/
theorem pinAndUnpin : Obligations.PinAndUnpin := by
  refine ⟨fun src s hp hidle => ?_, fun src s hp hbusy => ?_, fun src s hp => ?_⟩
  · have ho := ownPin_of_idle (s := received src s) (by simpa using hidle)
    exact exec_pin.trans (serve_eq_respond hp (by simpa using ho))
  · have ho := ownPin_of_busy (s := received src s) (by simpa using hbusy)
    exact exec_pin.trans (serve_eq_respond hp ho)
  · have ho := ownUnpin_eq (s := received src s)
    exact exec_unpin.trans (serve_eq_respond hp (by simpa using ho))

/-! ### The claim's end (R15, R16) -/

/-- A change of the event unit leaves it as changed, whether or not it places a NOTICE (R187). -/
@[simp] theorem changeEvents_ev (f : Events → Events) : (changeEvents f s).ev = f s.ev := by
  unfold changeEvents
  split <;> simp

/-- A kind raised for one requester joins that requester's event set alone (R183). -/
theorem raiseFor_sets :
    (raiseFor h k s).ev.sets.get r = if r = h then s.ev.sets.get r ||| k else s.ev.sets.get r := by
  by_cases hr : r = h
  · subst hr
    simp [raiseFor]
  · simp [raiseFor, hr, PerReq.get_set_other]

theorem freeClaim_eq : freeClaim s = { s with plan := { s.plan with holder := none, lapseTimer := none } } := rfl

theorem ownRelease_of_holder (hh : s.plan.holder = some (requesterOfSource src)) :
    ownRelease src s = (freeClaim s, bare .done) := by
  simp [ownRelease, hh]

theorem ownRelease_of_break (hh : s.plan.holder = some h) (hne : h ≠ requesterOfSource src)
    (h0 : effectiveRank s src = 0) : ownRelease src s = (raiseFor h kindClaimLapsed (freeClaim s), bare .done) := by
  simp [ownRelease, hh, hne, h0]

/-- A requester that is not the holder is refused where there is no claim to break or its rank does not break it. -/
theorem ownRelease_of_notHolder (hh : s.plan.holder ≠ some (requesterOfSource src))
    (hb : s.plan.holder = none ∨ effectiveRank s src ≠ 0) :
    ownRelease src s = (s, answering .notHolder (.holder s.plan.holder)) := by
  cases hc : s.plan.holder with
  | none => simp [ownRelease, notHolder, hc]
  | some h =>
    have hne : h ≠ requesterOfSource src := fun e => hh (by rw [hc, e])
    have hrank : effectiveRank s src ≠ 0 := by simpa [hc] using hb
    simp [ownRelease, notHolder, hc, hne, hrank]

theorem exec_claimLapse_of_expired (hh : s.plan.holder = some h) (ht : s.plan.lapseTimer = some 0) :
    exec .claimLapse s = .next (raiseFor h kindClaimLapsed (freeClaim s)) := by
  rw [exec_claimLapse]
  simp [lapseStep, expired, lapseClaim, hh, ht]

/-- Settles O28: a RELEASE by its requester (the holder, a breaker of another's claim, any other), the lapse, and the one
event set that CLAIM-LAPSED joins. -/
theorem releaseBreakAndLapse : Obligations.ReleaseBreakAndLapse := by
  refine ⟨fun src s hp hh => ?_, fun src h s hp hh hne h0 => ?_, fun src s hp hh hb => ?_, fun h s hh ht => ?_,
    fun h r k s => raiseFor_sets⟩
  · have ho := ownRelease_of_holder (s := received src s) (by simpa using hh)
    exact exec_release.trans (serve_eq_respond hp (by simpa [freeClaim_eq] using ho))
  · have ho := ownRelease_of_break (s := received src s) (by simpa using hh) hne (by simpa using h0)
    exact exec_release.trans (serve_eq_respond hp (by simpa [freeClaim_eq] using ho))
  · have ho := ownRelease_of_notHolder (s := received src s) (by simpa using hh) (by simpa using hb)
    exact exec_release.trans (serve_eq_respond hp (by simpa using ho))
  · exact exec_claimLapse_of_expired hh ht

/-! ### Edits of the staged plan (R9, R10, R12, R13) -/

theorem holds_iff : holds s src = true ↔ s.plan.holder = some (requesterOfSource src) := by
  simp [holds]

/-- A command of the holder restarts the lapse timer (R15). -/
theorem renew_of_holder (hh : s.plan.holder = some (requesterOfSource src)) :
    renew src s = { s with plan := { s.plan with lapseTimer := some (s.plan.lapseSecs * 1000000) } } := by
  rw [renew, if_pos (holds_iff.2 hh)]
  rfl

theorem editIndexOf_of_stream (hv : index.toNat = i.val) (hi : i ≠ 0) : editIndexOf index = some i := by
  have hs : streamOf index = some i := by simp [streamOf, hv]
  simp [editIndexOf, hs, hi]

theorem editIndexOf_of_outside (ho : index = 0 ∨ 32 ≤ index.toNat) : editIndexOf index = none := by
  rcases ho with rfl | ho
  · rfl
  · have hs : streamOf index = none := by simp [streamOf, ho]
    simp [editIndexOf, hs]

theorem rankAllows_iff {eff : Nat} {current new : Rank} :
    rankAllows eff current new = true ↔ eff ≤ current.val ∧ eff ≤ new.val := by
  simp [rankAllows]

theorem ownClearStream_of_allowed (hh : s.plan.holder = some (requesterOfSource src)) (hi : editIndexOf index = some i)
    (hr : effectiveRank s src ≤ (sget s.plan.staged i).editRank.val) :
    ownClearStream src index s =
      ({ s with
          plan :=
            { s.plan with
              staged := sset s.plan.staged i { sget s.plan.staged i with present := false }
              lapseTimer := some (s.plan.lapseSecs * 1000000) } },
        bare .done) := by
  simp [ownClearStream, holds_iff.2 hh, hi, rankAllows_iff.2 ⟨hr, hr⟩, renew_of_holder hh, writeStaged, modPlan]

theorem ownClearStream_of_rank (hh : s.plan.holder = some (requesterOfSource src)) (hi : editIndexOf index = some i)
    (hr : (sget s.plan.staged i).editRank.val < effectiveRank s src) :
    ownClearStream src index s = (renew src s, bare .rank) := by
  have hno : ¬ effectiveRank s src ≤ (sget s.plan.staged i).editRank.val := by omega
  simp [ownClearStream, holds_iff.2 hh, hi, rankAllows_iff, hno]

theorem ownClearStream_of_badIndex (hh : s.plan.holder = some (requesterOfSource src)) (hi : editIndexOf index = none) :
    ownClearStream src index s = (renew src s, bare .badArgument) := by
  simp [ownClearStream, holds_iff.2 hh, hi]

theorem ownClearStream_of_notHolder (hh : s.plan.holder ≠ some (requesterOfSource src)) :
    ownClearStream src index s = (s, answering .notHolder (.holder s.plan.holder)) := by
  simp [ownClearStream, holds_iff, hh, notHolder]

/-- REVERT may take the active descriptor of an index: the two copies agree there, or the rank check passes (R13). -/
def RevertAllowed (s : State) (src : Source) (i : StreamIx) : Prop :=
  sget s.plan.staged i ≠ sget s.plan.active i →
    effectiveRank s src ≤ (sget s.plan.staged i).editRank.val ∧
      effectiveRank s src ≤ (sget s.plan.active i).editRank.val

theorem revertFault_eq_none_iff : revertFault s src = none ↔ ∀ i, RevertAllowed s src i := by
  simp [revertFault, allStreams, ← Fin.find?_eq_find?_finRange, RevertAllowed, ← rankAllows_iff]

/-- The index that REVERT names is the lowest that is not allowed: the search runs through the indices in rising order. -/
theorem revertFault_eq_some_iff :
    revertFault s src = some i ↔ ¬ RevertAllowed s src i ∧ ∀ j < i, RevertAllowed s src j := by
  rw [revertFault, allStreams, ← Fin.find?_eq_find?_finRange, Fin.find?_eq_some_iff]
  simp [RevertAllowed, ← rankAllows_iff]

theorem ownRevert_of_allowed (hh : s.plan.holder = some (requesterOfSource src)) (hall : ∀ i, RevertAllowed s src i) :
    ownRevert src s =
      ({ s with plan := { s.plan with staged := s.plan.active, lapseTimer := some (s.plan.lapseSecs * 1000000) } },
        bare .done) := by
  simp [ownRevert, holds_iff.2 hh, revertFault_eq_none_iff.2 hall, renew_of_holder hh, modPlan]

theorem ownRevert_of_fault (hh : s.plan.holder = some (requesterOfSource src)) (hf : revertFault s src = some i) :
    ownRevert src s = (renew src s, answering .rank (.index i.val)) := by
  simp [ownRevert, holds_iff.2 hh, hf]

theorem ownRevert_of_notHolder (hh : s.plan.holder ≠ some (requesterOfSource src)) :
    ownRevert src s = (s, answering .notHolder (.holder s.plan.holder)) := by
  simp [ownRevert, holds_iff, hh, notHolder]

@[simp] theorem revertAllowed_received (src' : Source) :
    RevertAllowed (received src' s) src i ↔ RevertAllowed s src i := by
  simp [RevertAllowed]

@[simp] theorem revertFault_received (src' : Source) : revertFault (received src' s) src = revertFault s src := by
  simp [revertFault]

/-- The holder's restarted lapse timer, on the state that took the command. -/
theorem renew_received_of_holder (hh : s.plan.holder = some (requesterOfSource src)) :
    renew src (received src s) =
      { received src s with plan := { s.plan with lapseTimer := some (s.plan.lapseSecs * 1000000) } } := by
  simpa using renew_of_holder (s := received src s) (by simpa using hh)

/-- Settles O30: CLEAR-STREAM and REVERT case by case in the order of their checks, each on the state that took the
command; REVERT's fault is the lowest by `revertFault_eq_some_iff`. -/
theorem clearStreamAndRevert : Obligations.ClearStreamAndRevert := by
  refine ⟨fun src index i s hp hh hv hi hr => ?_, fun src s hp hh hall => ?_, fun src index s hp hh => ?_,
    fun src index s hp hh hout => ?_, fun src index i s hp hh hv hi hr => ?_, fun src s hp hh => ?_,
    fun src i s hp hh hne hr hlow => ?_⟩
  · have ho := ownClearStream_of_allowed (s := received src s) (by simpa using hh) (editIndexOf_of_stream hv hi)
      (by simpa using hr)
    exact exec_clearStream.trans (serve_eq_respond hp (by simpa using ho))
  · have ho := ownRevert_of_allowed (s := received src s) (by simpa using hh)
      (fun i => (revertAllowed_received src).2 (hall i))
    exact exec_revert.trans (serve_eq_respond hp (by simpa using ho))
  · have ho := ownClearStream_of_notHolder (index := index) (s := received src s) (by simpa using hh)
    exact exec_clearStream.trans (serve_eq_respond hp (by simpa using ho))
  · have ho := ownClearStream_of_badIndex (s := received src s) (by simpa using hh) (editIndexOf_of_outside hout)
    exact exec_clearStream.trans (serve_eq_respond hp (by rw [ho, renew_received_of_holder hh]))
  · have ho := ownClearStream_of_rank (s := received src s) (by simpa using hh) (editIndexOf_of_stream hv hi)
      (by simpa using hr)
    exact exec_clearStream.trans (serve_eq_respond hp (by rw [ho, renew_received_of_holder hh]))
  · have ho := ownRevert_of_notHolder (s := received src s) (by simpa using hh)
    exact exec_revert.trans (serve_eq_respond hp (by simpa using ho))
  · have hno : ¬ RevertAllowed s src i := fun hall => by
      obtain ⟨hstaged, hactive⟩ := hall hne
      omega
    have ho := ownRevert_of_fault (s := received src s) (by simpa using hh)
      (by simpa using revertFault_eq_some_iff.2 ⟨hno, hlow⟩)
    exact exec_revert.trans (serve_eq_respond hp (by rw [ho, renew_received_of_holder hh]))

end PlanCommands

end Sys2Proof.Machine

/-! What the readings STATUS, READ-EVENTS, READ-SWEEP and READ-SWITCH answer, what the sweep commands do to the engine
and its path in each state of the engine, and the obligations about them. -/

namespace Sys2Proof.Machine

section Readings

variable {src : Source} {p : Port} {s : State}

/-! ### From a reading's row to its owner -/

theorem exec_status : exec (.status src) s = .next (serve 2 anyRank src (ownStatus src) s) := rfl

theorem exec_readEvents : exec (.readEvents src) s = .next (serve 18 anyRank src (ownReadEvents src) s) := rfl

theorem exec_readSweep : exec (.readSweep src) s = .next (serve 21 anyRank src ownReadSweep s) := rfl

theorem exec_readSwitch : exec (.readSwitch src) s = .next (serve 22 anyRank src ownReadSwitch s) := rfl

/-- STATUS is allowed at every check of R173, so the rank alone could refuse it. -/
theorem passes_status (hr : effectiveRank s src ≤ anyRank) : Passes 2 anyRank src s :=
  ⟨fun _ => .inl rfl, fun _ => rfl, fun _ => .inl rfl, hr⟩

/-! ### Taking a request changes no reading -/

theorem ownStatus_received : ownStatus src (received src s) = (received src s, (ownStatus src s).2) := by
  cases src <;> rfl

theorem ownReadEvents_received : ownReadEvents src (received src s) = (received src s, (ownReadEvents src s).2) := by
  cases src <;> rfl

theorem ownReadSweep_received : ownReadSweep (received src s) = (received src s, (ownReadSweep s).2) := by
  cases src <;> rfl

theorem ownReadSwitch_received : ownReadSwitch (received src s) = (received src s, (ownReadSwitch s).2) := by
  cases src <;> rfl

/-! ### What STATUS gives its requester alone (R175, R185, R186) -/

theorem attention_eq_true_iff : attention s p = true ↔ bothSets s.ev (requesterOfPort p) ≠ 0 := by
  simp [attention]

theorem tunnel_statusReading_of_remote (h : ∀ p, src ≠ .lp p) : (statusReading s src).tunnel = none := by
  cases src with
  | lp p => exact absurd rfl (h p)
  | pt farPort rank tag => rfl

theorem attention_statusReading_of_remote (h : ∀ p, src ≠ .lp p) : (statusReading s src).events.attention = none := by
  cases src with
  | lp p => exact absurd rfl (h p)
  | pt farPort rank tag => rfl

/-- Settles O14: each reading's owner changes nothing and reads off the state that took the command what stood before
it. -/
theorem readingsAnswerWithoutEffect : Obligations.ReadingsAnswerWithoutEffect := by
  refine ⟨fun src s hr => ⟨statusReading s src, ?_, rfl, rfl, rfl, rfl, rfl, rfl, rfl, fun p => PerPath.get_of _ p, rfl,
    rfl, rfl, ?_, tunnel_statusReading_of_remote, rfl, rfl, rfl, rfl, rfl, rfl, rfl, ?_,
    attention_statusReading_of_remote⟩, fun src s hp => ?_, fun src s hp => ?_, fun src s hp => ?_⟩
  · exact exec_status.trans (serve_eq_respond (passes_status hr) ownStatus_received)
  · rintro p rfl
    rfl
  · rintro p rfl
    exact ⟨attention s p, rfl, attention_eq_true_iff⟩
  · exact exec_readEvents.trans (serve_eq_respond hp ownReadEvents_received)
  · exact exec_readSweep.trans (serve_eq_respond hp ownReadSweep_received)
  · exact exec_readSwitch.trans (serve_eq_respond hp ownReadSwitch_received)

end Readings

section SweepCommands

variable {src : Source} {b : Byte} {byPark : Bool} {c : CurrentSweep} {k k' : KindSet}
  {o : SweepOutcome} {p q : Path} {st : Status} {s t : State} {x : PathState}

/-! ### Kinds that stay raised (R183, R184) -/

/-- A change of the event unit that takes no kind from an event set keeps what is raised. -/
theorem Raised.of_join (h : Raised k s) (hjoin : ∀ r, t.ev.sets.get r = s.ev.sets.get r ||| k') : Raised k t := by
  intro r
  rw [hjoin r, BitVec.and_or_distrib_left, h r]
  ext i
  simp +contextual

theorem raise_sets (r : Requester) : (raise k s).ev.sets.get r = s.ev.sets.get r ||| k := by
  simp [raise]

theorem raised_raise : Raised k (raise k s) := by
  intro r
  rw [raise_sets]
  ext i
  simp +contextual

theorem Raised.raise (h : Raised k s) : Raised k (raise k' s) := h.of_join raise_sets

theorem Raised.setCond {holding : Bool} (h : Raised k s) : Raised k (setCond k' holding s) := by
  unfold Machine.setCond
  split
  · split
    · exact h
    · exact h.of_join (k' := k') fun r => by simp
  · exact h

theorem Raised.sweepFollow (h : Raised k s) : Raised k (sweepFollow s) := by
  cases he : s.sweep.engine with
  | idle => simpa [Machine.sweepFollow, he] using h
  | suspended c => simpa [Machine.sweepFollow, he] using h
  | pending c =>
    simp only [Machine.sweepFollow, he]
    split
    · exact Raised.raise (s := modSweep _ s) h
    · exact h
  | running c =>
    simp only [Machine.sweepFollow, he]
    split
    · exact Raised.raise (s := modSweep _ s) h
    · split
      · exact Raised.raise (s := modSweep _ (setState _ _ s)) h
      · exact h

theorem Raised.reselectSource (h : Raised k s) : Raised k (reselectSource s) := by
  unfold Machine.reselectSource
  split
  · exact h
  · exact Raised.raise (s := modClock _ (modTime _ s)) h

theorem Raised.reselectRef (h : Raised k s) : Raised k (reselectRef s) := by
  unfold Machine.reselectRef
  split <;> exact h

/-- What follows a change of a path's state takes no kind from an event set. -/
theorem Raised.settle (h : Raised k s) : Raised k (settle s) := by
  have hfollow := h.sweepFollow.reselectSource.reselectRef
  have hdegraded : Raised k (evalDegraded (Machine.reselectRef (Machine.reselectSource (Machine.sweepFollow s)))) :=
    hfollow.setCond
  exact Raised.setCond (s := modTime _ _) hdegraded

/-! ### The paths under a sweep -/

@[simp] theorem pstate_received : pstate (received src s) p = pstate s p := by
  simp [pstate]

@[simp] theorem otherEligible_received : otherEligible (received src s) p = otherEligible s p := by
  simp [otherEligible, eligible]

@[simp] theorem pstate_setState_same : pstate (setState p x s) p = x := by
  simp [pstate, setState]

theorem pstate_setState_other (h : q ≠ p) : pstate (setState p x s) q = pstate s q := by
  simp [pstate, setState, PerPath.get_upd_other _ _ h]

/-- Whether another path than `p` is eligible does not turn on the state of `p`. -/
theorem otherEligible_congr (h : ∀ q, q ≠ p → pstate t q = pstate s q) : otherEligible t p = otherEligible s p := by
  simp only [otherEligible]
  congr 1
  funext q
  by_cases hq : q = p
  · simp [hq]
  · simp [eligible, h q hq]

/-! ### The engine follows its path (R159, R162) -/

/-- An engine that is IDLE or SUSPENDED follows no path. -/
theorem sweepFollow_of_resting (h : s.sweep.engine = .idle ∨ ∃ c, s.sweep.engine = .suspended c) :
    sweepFollow s = s := by
  rcases h with h | ⟨c, h⟩ <;> simp [sweepFollow, h]

/-- A running sweep goes on while its path is in SWEEP beside another eligible one outside a storm. -/
theorem sweepFollow_of_running (he : s.sweep.engine = .running c) (hp : pstate s c.path = .sweep)
    (hs : stormy s.storm.effective = false) (ho : otherEligible s c.path = true) : sweepFollow s = s := by
  simp [sweepFollow, he, hp, hs, ho]

theorem settle_sweep : (settle s).sweep = (sweepFollow s).sweep := by
  simp [settle]

theorem pstate_settle : pstate (settle s) p = pstate (sweepFollow s) p := by
  simp [settle, pstate]

/-! ### Starting, suspending and ending a sweep -/

/-- A sweep that starts outside a storm beside another eligible path is running when all that follows is done. -/
theorem startSweep_of_ready (hs : stormy s.storm.effective = false) (ho : otherEligible s c.path = true) :
    (startSweep c s).sweep = { s.sweep with engine := .running c } ∧
      ∀ q, pstate (startSweep c s) q = pstate (setState c.path .sweep s) q := by
  have hother := (otherEligible_congr fun q => pstate_setState_other (x := .sweep)).trans ho
  have hfollow := sweepFollow_of_running
    (s := modSweep (fun w => { w with engine := .running c })
      (modFramer c.path (fun f => { f with rx := f.rx.map fun r => { r with partSweep := true } })
        (setState c.path .sweep s)))
    rfl pstate_setState_same hs hother
  refine ⟨?_, fun q => ?_⟩
  · rw [startSweep, settle_sweep, hfollow]
    rfl
  · rw [startSweep, pstate_settle, hfollow]
    rfl

/-- A running sweep that is suspended is SUSPENDED without its step in progress, its path UP (R162). -/
theorem settle_suspendRaw :
    (settle (suspendRaw c s)).sweep = { s.sweep with engine := .suspended { c with taken := 0, failed := 0 } } ∧
      pstate (settle (suspendRaw c s)) c.path = .up ∧ Raised kindSweepSuspended (settle (suspendRaw c s)) := by
  have hsweep : (suspendRaw c s).sweep = { s.sweep with engine := .suspended { c with taken := 0, failed := 0 } } := by
    simp [suspendRaw]
  have hfollow := sweepFollow_of_resting (s := suspendRaw c s) (.inr ⟨_, congrArg Sweep.engine hsweep⟩)
  refine ⟨?_, ?_, Raised.settle raised_raise⟩
  · rw [settle_sweep, hfollow, hsweep]
  · rw [pstate_settle, hfollow]
    simp [suspendRaw, pstate, setState]

/-- The engine of a sweep that ended with an outcome: IDLE, with the result record of R157. -/
theorem endSweep_sweep :
    (endSweep o byPark c s).sweep =
      { engine := .idle
        last := some
          { path := c.path, outcome := o, byPark := byPark, counts := c.counts, margin := marginOf c.counts } } := by
  simp [endSweep]

@[simp] theorem pstate_endSweep : pstate (endSweep o byPark c s) p = pstate s p := by
  simp [pstate]

theorem sweepFollow_endSweep : sweepFollow (endSweep o byPark c s) = endSweep o byPark c s :=
  sweepFollow_of_resting (.inl (congrArg Sweep.engine endSweep_sweep))

/-- The sweep in hand, whatever its engine's state, ends ABORTED and is told (R157, R165). -/
theorem abortCurrent_of_current
    (h : s.sweep.engine = .running c ∨ s.sweep.engine = .pending c ∨ s.sweep.engine = .suspended c) :
    (abortCurrent byPark s).sweep =
        { engine := .idle
          last := some
            { path := c.path, outcome := .aborted, byPark := byPark, counts := c.counts,
              margin := marginOf c.counts } } ∧
      Raised kindSweepEnd (abortCurrent byPark s) := by
  rcases h with h | h | h <;> rw [abortCurrent, h]
  · exact ⟨by rw [settle_sweep, sweepFollow_endSweep, endSweep_sweep], Raised.settle raised_raise⟩
  · exact ⟨endSweep_sweep, raised_raise⟩
  · exact ⟨endSweep_sweep, raised_raise⟩

/-- The path of a running sweep returns to UP (R165). -/
theorem pstate_abortCurrent_of_running (h : s.sweep.engine = .running c) :
    pstate (abortCurrent byPark s) c.path = .up := by
  rw [abortCurrent, h]
  simp only [pstate_settle, sweepFollow_endSweep, pstate_endSweep, pstate_setState_same]

theorem abortCurrent_of_idle (h : s.sweep.engine = .idle) : abortCurrent byPark s = s := by
  simp [abortCurrent, h]

/-! ### From a sweep command's row to its owner -/

theorem exec_sweep : exec (.sweep src b) s = .next (serve 31 1 src (ownSweep b) s) := rfl

theorem exec_suspendSweep : exec (.suspendSweep src) s = .next (serve 32 1 src ownSuspendSweep s) := rfl

theorem exec_resumeSweep : exec (.resumeSweep src) s = .next (serve 33 1 src ownResumeSweep s) := rfl

theorem exec_abortSweep : exec (.abortSweep src) s = .next (serve 34 1 src ownAbortSweep s) := rfl

/-! ### SWEEP (R158) -/

@[simp] theorem sweepRefusal_received : sweepRefusal (received src s) p = sweepRefusal s p := by
  cases src <;> rfl

@[simp] theorem sweepReady_received : sweepReady (received src s) p = sweepReady s p := by
  simp [sweepReady]

/-- With the engine IDLE, the terminal not PARKING and no storm, SWEEP is refused by its path alone. -/
theorem sweepRefusal_of_idle (hpark : isParking s = false) (hstorm : stormy s.storm.effective = false)
    (he : s.sweep.engine = .idle) :
    sweepRefusal s p =
      if pstate s p = .off ∨ pstate s p = .shelter then some .pathNotReady
      else if eligible s p && !otherEligible s p then some .lastPath
      else none := by
  simp [sweepRefusal, hpark, hstorm, he]

theorem ownSweep_of_badPath (hb : pathOf b = none) : ownSweep b s = (s, bare .badArgument) := by
  simp [ownSweep, hb]

theorem ownSweep_of_refusal (hb : pathOf b = some p) (hr : sweepRefusal s p = some st) :
    ownSweep b s = (s, bare st) := by
  simp [ownSweep, hb, hr]

theorem ownSweep_of_ready (hb : pathOf b = some p) (hr : sweepRefusal s p = none) (hready : sweepReady s p = true) :
    ownSweep b s = (startSweep (newSweep p) s, bare .accepted) := by
  simp [ownSweep, hb, hr, hready]

theorem ownSweep_of_waiting (hb : pathOf b = some p) (hr : sweepRefusal s p = none) (hready : sweepReady s p = false) :
    ownSweep b s = ({ s with sweep := { s.sweep with engine := .pending (newSweep p) } }, bare .pending) := by
  simp [ownSweep, hb, hr, hready, modSweep]

/-- The checks of SWEEP on a defined path value in their order, each with its response (R158). -/
theorem sweepRefusal_of_check
    (h : (isParking s = true ∧ st = .busy) ∨
      (isParking s = false ∧ stormy s.storm.effective = true ∧ st = .inStorm) ∨
      (isParking s = false ∧ stormy s.storm.effective = false ∧
        (((∃ c, s.sweep.engine = .running c ∨ s.sweep.engine = .pending c) ∧ st = .sweepActive) ∨
          ((∃ c, s.sweep.engine = .suspended c) ∧ st = .sweepSuspended) ∨
          (s.sweep.engine = .idle ∧ (pstate s p = .off ∨ pstate s p = .shelter) ∧ st = .pathNotReady) ∨
          (s.sweep.engine = .idle ∧ (pstate s p = .up ∨ pstate s p = .degraded) ∧ otherEligible s p = false ∧
            st = .lastPath)))) :
    sweepRefusal s p = some st := by
  rcases h with ⟨hpark, rfl⟩ | ⟨hpark, hstorm, rfl⟩ | ⟨hpark, hstorm, hengine⟩
  · simp [sweepRefusal, hpark]
  · simp [sweepRefusal, hpark, hstorm]
  · rcases hengine with ⟨⟨c, he | he⟩, rfl⟩ | ⟨⟨c, he⟩, rfl⟩ | ⟨he, hx, rfl⟩ | ⟨he, hx, ho, rfl⟩
    · simp [sweepRefusal, hpark, hstorm, he]
    · simp [sweepRefusal, hpark, hstorm, he]
    · simp [sweepRefusal, hpark, hstorm, he]
    · simp [sweepRefusal_of_idle hpark hstorm he, hx]
    · rcases hx with hx | hx <;> simp [sweepRefusal_of_idle hpark hstorm he, eligible, hx, ho]

/-! ### SUSPEND-SWEEP and RESUME-SWEEP (R163, R164) -/

theorem ownSuspendSweep_of_running (he : s.sweep.engine = .running c) :
    ownSuspendSweep s = (settle (suspendRaw c s), bare .done) := by
  simp [ownSuspendSweep, he]

theorem ownSuspendSweep_of_pending (he : s.sweep.engine = .pending c) : ownSuspendSweep s = (s, bare .pending) := by
  simp [ownSuspendSweep, he]

theorem ownSuspendSweep_of_resting (he : s.sweep.engine = .idle ∨ ∃ c, s.sweep.engine = .suspended c) :
    ownSuspendSweep s = (s, bare .done) := by
  rcases he with he | ⟨c, he⟩ <;> simp [ownSuspendSweep, he]

theorem ownResumeSweep_of_ready (he : s.sweep.engine = .suspended c) (hs : stormy s.storm.effective = false)
    (hp : pstate s c.path = .up) (ho : otherEligible s c.path = true) :
    ownResumeSweep s = (startSweep c s, bare .accepted) := by
  simp [ownResumeSweep, he, hs, hp, ho]

theorem ownResumeSweep_of_check (he : s.sweep.engine = .suspended c)
    (h : (stormy s.storm.effective = true ∧ st = .inStorm) ∨
      (stormy s.storm.effective = false ∧
        ((pstate s c.path ≠ .up ∧ st = .pathNotReady) ∨
          (pstate s c.path = .up ∧ otherEligible s c.path = false ∧ st = .lastPath)))) :
    ownResumeSweep s = (s, bare st) := by
  rcases h with ⟨hs, rfl⟩ | ⟨hs, ⟨hp, rfl⟩ | ⟨hp, ho, rfl⟩⟩
  · simp [ownResumeSweep, he, hs]
  · simp [ownResumeSweep, he, hs, hp]
  · simp [ownResumeSweep, he, hs, hp, ho]

theorem ownResumeSweep_of_notSuspended (he : ∀ c, s.sweep.engine ≠ .suspended c) :
    ownResumeSweep s = (s, bare .notSuspended) := by
  cases h : s.sweep.engine with
  | suspended c => exact absurd h (he c)
  | _ => simp [ownResumeSweep, h]

/-! ### The four commands -/

/-- R158's start of a new sweep. -/
theorem sweep_starts (hp : Passes 31 1 src s) (hb : pathOf b = some p) (hpark : isParking s = false)
    (hstorm : stormy s.storm.effective = false) (he : s.sweep.engine = .idle) (hup : pstate s p = .up)
    (ho : otherEligible s p = true) :
    exec (.sweep src b) s =
      .next (respond src 31 (bare .accepted) (received src s) (startSweep (newSweep p) (received src s))) := by
  have hr : sweepRefusal s p = none := by simp [sweepRefusal_of_idle hpark hstorm he, hup, ho]
  have hready : sweepReady s p = true := by simp [sweepReady, hup, ho, hstorm]
  exact exec_sweep.trans (serve_eq_respond hp (ownSweep_of_ready hb (by simpa using hr) (by simpa using hready)))

/-- R158's wait for a path that is not yet UP. -/
theorem sweep_waits (hp : Passes 31 1 src s) (hb : pathOf b = some p) (hpark : isParking s = false)
    (hstorm : stormy s.storm.effective = false) (he : s.sweep.engine = .idle)
    (hx : pstate s p = .acquire ∨ pstate s p = .probation ∨ (pstate s p = .degraded ∧ otherEligible s p = true)) :
    exec (.sweep src b) s =
      .next (respond src 31 (bare .pending) (received src s)
        { received src s with sweep := { s.sweep with engine := .pending (newSweep p) } }) := by
  have hr : sweepRefusal s p = none := by
    rw [sweepRefusal_of_idle hpark hstorm he]
    rcases hx with hx | hx | ⟨hx, ho⟩
    · simp [eligible, hx]
    · simp [eligible, hx]
    · simp [hx, ho]
  have hready : sweepReady s p = false := by
    rcases hx with hx | hx | ⟨hx, _⟩ <;> simp [sweepReady, hx]
  have hown := ownSweep_of_waiting (s := received src s) hb (by simpa using hr) (by simpa using hready)
  exact exec_sweep.trans (serve_eq_respond hp (by simpa using hown))

theorem sweep_refused (hp : Passes 31 1 src s) (hb : pathOf b = some p) (hr : sweepRefusal s p = some st) :
    exec (.sweep src b) s = .next (respond src 31 (bare st) (received src s) (received src s)) :=
  exec_sweep.trans (serve_eq_respond hp (ownSweep_of_refusal hb (by simpa using hr)))

/-- Settles O49: each command by the state of the engine, with SWEEP's and RESUME-SWEEP's checks in their order. -/
theorem sweepCommands : Obligations.SweepCommands := by
  refine ⟨fun src b p s hp hb hpark hstorm he hup ho => ?_, fun src b p s hp hb hpark hstorm he hx => ?_,
    fun src b st s hp h => ?_, fun src c s hp he _ => ?_, fun src s hp he => ?_,
    fun src c s hp he hstorm hup ho => ?_, fun src c st s hp he h => ?_, fun src s hp he => ?_, fun src c s hp h => ?_,
    fun src s hp he => ?_⟩
  · obtain ⟨hsweep, hpaths⟩ := startSweep_of_ready (c := newSweep p) (s := received src s) (by simpa using hstorm)
      (by simpa [newSweep] using ho)
    refine ⟨_, sweep_starts hp hb hpark hstorm he hup ho, by simpa [newSweep] using hsweep, ?_, fun q hq => ?_, by simp⟩
    · exact (hpaths p).trans pstate_setState_same
    · exact (hpaths q).trans ((pstate_setState_other hq).trans pstate_received)
  · exact sweep_waits hp hb hpark hstorm he hx
  · rcases h with ⟨hb, rfl⟩ | ⟨p, hb, h⟩
    · exact exec_sweep.trans (serve_eq_respond hp (ownSweep_of_badPath hb))
    · exact sweep_refused hp hb (sweepRefusal_of_check h)
  · obtain ⟨hsweep, hup, hraised⟩ := settle_suspendRaw (c := c) (s := received src s)
    have hown := ownSuspendSweep_of_running (s := received src s) (by simpa using he)
    exact ⟨_, exec_suspendSweep.trans (serve_eq_respond hp hown), by simpa using hsweep, hup, hraised, by simp⟩
  · cases h : s.sweep.engine with
    | running c => exact absurd h (he c)
    | pending c =>
      exact exec_suspendSweep.trans (serve_eq_respond hp (ownSuspendSweep_of_pending (by simpa using h)))
    | idle =>
      exact exec_suspendSweep.trans (serve_eq_respond hp (ownSuspendSweep_of_resting (.inl (by simpa using h))))
    | suspended c =>
      exact exec_suspendSweep.trans (serve_eq_respond hp (ownSuspendSweep_of_resting (.inr ⟨c, by simpa using h⟩)))
  · obtain ⟨hsweep, hpaths⟩ := startSweep_of_ready (c := c) (s := received src s) (by simpa using hstorm)
      (by simpa using ho)
    have hown := ownResumeSweep_of_ready (s := received src s) (by simpa using he) (by simpa using hstorm)
      (by simpa using hup) (by simpa using ho)
    refine ⟨_, exec_resumeSweep.trans (serve_eq_respond hp hown), by simpa using hsweep, ?_, fun q hq => ?_⟩
    · exact (hpaths c.path).trans pstate_setState_same
    · exact (hpaths q).trans ((pstate_setState_other hq).trans pstate_received)
  · have hown := ownResumeSweep_of_check (s := received src s) (by simpa using he) (by simpa using h)
    exact exec_resumeSweep.trans (serve_eq_respond hp hown)
  · have hown := ownResumeSweep_of_notSuspended (s := received src s) (by simpa using he)
    exact exec_resumeSweep.trans (serve_eq_respond hp hown)
  · obtain ⟨hsweep, hraised⟩ := abortCurrent_of_current (byPark := false) (s := received src s) (by simpa using h)
    exact ⟨_, exec_abortSweep.trans (serve_eq_respond hp rfl), hsweep,
      fun he => pstate_abortCurrent_of_running (by simpa using he), hraised, by simp⟩
  · have hown := abortCurrent_of_idle (byPark := false) (s := received src s) (by simpa using he)
    exact exec_abortSweep.trans (serve_eq_respond hp (by rw [ownAbortSweep, hown]))

end SweepCommands

end Sys2Proof.Machine
